-- ==== Sys2Proof/Word.lean ====
section
/-! DEFINITION. The word types of TMLF. All values are unsigned (00_scope.md R10). -/

namespace Sys2Proof

/-- A byte: a register of 8 bits, a buffer element, a byte on the wire (R10, R11). -/
abbrev Byte := BitVec 8

/-- A 16-bit address or record field (R21, R28). -/
abbrev Addr := BitVec 16

/-- A 9-bit length: `EXPLEN` (R21). -/
abbrev Len9 := BitVec 9

end Sys2Proof
end

