-- ==== Sys2Proof/Config.lean ====
section
/-! DEFINITION. The implementation parameters of 00_scope.md R5 to R9, fixed for the life of a model
instance (R20), and the free values: constants without a body, of which nothing can be proved. -/

namespace Sys2Proof

/-- `CMD_CODE[k]`, k = 0..8: the nine command byte values. OPEN (R5, D14; log 1): no value is assumed,
nor that two of them differ. -/
opaque Config.cmdCode : Fin 9 → Byte

/-- `MAX_READ_LEN`, 0..255: the largest read length `RQ.RDFL` accepts. OPEN (R6, D15; log 2). -/
opaque Config.maxReadLen : Byte

/-- `PEER_ADDR`: the peer the transport addresses; read by no rule of the block. OPEN (R9; log 1). -/
opaque Config.peerAddr : Nat

/-- `STATUS_LEN` = 11 (R7, 90_conflicts.md C1; log 3). -/
def Config.statusLen : Nat := 11

/-- `DEVID_LEN` = 9 (R7). -/
def Config.devIdLen : Nat := 9

/-- `PLCAP` = 3 (R8). -/
def Config.plCap : Nat := 3

/-- `SECCAP` = 3 (R8). -/
def Config.secCap : Nat := 3

/-- `TXCAP` = 4 (R8). -/
def Config.txCap : Nat := 4

/-- `RXCAP` = 258 (R8). -/
def Config.rxCap : Nat := 258

/-- `PAYCAP` = 257 (R8). -/
def Config.payCap : Nat := 257

/-- FREE VALUE (log 5): what the n-th read of something with no specified value delivers (R40,
"TMLF returns some value on `RD`, and no rule says which"). The argument is `env.draws`. -/
opaque Config.unspecified : Nat → BitVec 16

/-- FREE VALUE (log 14): what the transport answers once `env.inbox` is empty: `none` is a failure, `some`
the bytes read (R75, "a model lets the transport return any byte sequence of any length, or fail").
The arguments are the peer, `env.draws`, the bytes written and the read length. -/
opaque Config.transportAnswer : Nat → Nat → List Byte → Nat → Option (List Byte)

end Sys2Proof
end

