-- ==== Sys2Proof/Syntax.lean ====
section
/-! DEFINITION. The abstract syntax: one constructor per row of spec/opcode_table.json. -/

namespace Sys2Proof

/-- The rows of the table: the 25 operations of `OPW` (30_encoding.md R92, R93), the reserved words
(R94) with the word itself, and the nine request frames of the wire (R99 to R107) with their operands. -/
inductive Instr where
  | csum
  | enc
  | val
  | csv
  | dst
  | did
  | clre
  | rqPing
  | rqReset
  | rqInit
  | rqGetst
  | rqExit
  | rqRdfl
  | rqRdid
  | rqWrps
  | rqRdps
  | rsPing
  | rsReset
  | rsInit
  | rsGetst
  | rsExit
  | rsRdfl
  | rsRdid
  | rsWrps
  | rsRdps
  | reserved (w : Byte)
  | wirePing
  | wireReset
  | wireInit
  | wireGetst
  | wireExit
  | wireRdfl (addr : Addr) (len : Byte)
  | wireRdid
  | wireWrps (addr : Addr) (value : Byte)
  | wireRdps (addr : Addr)
  deriving DecidableEq, Repr

end Sys2Proof
end

