-- ==== Sys2Proof/WellFormed.lean ====
section
/-! DEFINITION. Which terms of `Instr` the encodings admit. -/

namespace Sys2Proof

/-- The reserved operation words of 30_encoding.md R94: 0x00, 0x08..0x0F, 0x19..0x1F, 0x29..0x2F, 0x30..0xFF. -/
def isReservedWord (w : Byte) : Bool :=
  w.toNat == 0 || (0x08 ≤ w.toNat && w.toNat ≤ 0x0F) || (0x19 ≤ w.toNat && w.toNat ≤ 0x1F)
    || (0x29 ≤ w.toNat && w.toNat ≤ 0x2F) || 0x30 ≤ w.toNat

/-- The check: a reserved word is one of the 231 (R94). Every other term is admitted, with every value of
its operands (R95, R98). -/
def wellFormed : Instr → Bool
  | .reserved w => isReservedWord w
  | _ => true

/-- `wellFormed` as a proposition. -/
abbrev WellFormed (i : Instr) : Prop := wellFormed i = true

end Sys2Proof
end

