-- ==== Sys2Proof/Decode.lean ====
section
/-! DEFINITION. The decoders of the operation word and of the request frame, and after them the encoder.
The third encoding of 30_encoding.md R90, the record layouts, is Machine/Records.lean. -/

namespace Sys2Proof

/-- Why bytes are no instruction. -/
inductive DecodeError where
  /-- no byte at all -/
  | noBytes
  /-- more than the one byte of an operation word (R91, "no other length") -/
  | extraBytes
  /-- no request frame of the nine with that response length (R112) -/
  | unknownFrame
  deriving DecidableEq, Repr

/-! ### The operation word -/

/-- R91: `grp` = bits 7:4 and `idx` = bits 3:0 select the operation by R92 (group 0) and R93 (groups 1
and 2); every other word is reserved (R94). -/
def decodeWord (w : Byte) : Instr :=
  match (w.extractLsb' 4 4).toNat, (w.extractLsb' 0 4).toNat with
  | 0, 1 => .csum
  | 0, 2 => .enc
  | 0, 3 => .val
  | 0, 4 => .csv
  | 0, 5 => .dst
  | 0, 6 => .did
  | 0, 7 => .clre
  | 1, 0 => .rqPing
  | 1, 1 => .rqReset
  | 1, 2 => .rqInit
  | 1, 3 => .rqGetst
  | 1, 4 => .rqExit
  | 1, 5 => .rqRdfl
  | 1, 6 => .rqRdid
  | 1, 7 => .rqWrps
  | 1, 8 => .rqRdps
  | 2, 0 => .rsPing
  | 2, 1 => .rsReset
  | 2, 2 => .rsInit
  | 2, 3 => .rsGetst
  | 2, 4 => .rsExit
  | 2, 5 => .rsRdfl
  | 2, 6 => .rsRdid
  | 2, 7 => .rsWrps
  | 2, 8 => .rsRdps
  | _, _ => .reserved w

/-- An operation word from bytes: exactly one byte (R91). -/
def decode : List Byte → Except DecodeError Instr
  | [] => .error .noBytes
  | [w] => .ok (decodeWord w)
  | _ :: _ :: _ => .error .extraBytes

/-- The bytes of an instruction of `nbits` bits held in `w`, least significant first; at least one. -/
def tableBytes (nbits w : Nat) : List Byte :=
  (List.range (max 1 ((nbits + 7) / 8))).map fun i => BitVec.ofNat 8 (w >>> (8 * i))

/-- The instruction the decoder reads from the table's numbering of bits. -/
def decodeTableWord (nbits w : Nat) : Option Instr :=
  match decode (tableBytes nbits w) with
  | .ok i => some i
  | .error _ => none

/-! ### The request frame -/

/-- The command indices k of 30_encoding.md R93, in order. -/
def commandIndices : List (Fin 9) := [0, 1, 2, 3, 4, 5, 6, 7, 8]

/-- The frame of command k whose payload is `p` (R99 to R107); `none` when k has no such payload. The
address travels high byte first (R62). -/
def frameInstr (k : Fin 9) (p : List Byte) : Option Instr :=
  match p with
  | [] =>
    if k = 0 then some .wirePing
    else if k = 1 then some .wireReset
    else if k = 2 then some .wireInit
    else if k = 3 then some .wireGetst
    else if k = 4 then some .wireExit
    else if k = 6 then some .wireRdid
    else none
  | [hi, lo] => if k = 8 then some (.wireRdps (hi ++ lo)) else none
  | [hi, lo, x] =>
    if k = 5 then some (.wireRdfl (hi ++ lo) x)
    else if k = 7 then some (.wireWrps (hi ++ lo) x)
    else none
  | _ => none

/-- The expected total length of the response of each frame (R99 to R107, "expected length"); `none` for
an operation word, which has no response. -/
def responseLength : Instr → Option Nat
  | .wirePing => some 1
  | .wireReset => some 1
  | .wireInit => some 1
  | .wireGetst => some 12
  | .wireExit => some 1
  | .wireRdfl _ n => some (2 + n.toNat)
  | .wireRdid => some 10
  | .wireWrps _ _ => some 2
  | .wireRdps _ => some 3
  | .csum | .enc | .val | .csv | .dst | .did | .clre
  | .rqPing | .rqReset | .rqInit | .rqGetst | .rqExit | .rqRdfl | .rqRdid | .rqWrps | .rqRdps
  | .rsPing | .rsReset | .rsInit | .rsGetst | .rsExit | .rsRdfl | .rsRdid | .rsWrps | .rsRdps
  | .reserved _ => none

/-- Frame `c :: p` read as command k, if `codes` gives k the byte `c`, k has such a payload, and the
response of that frame has length `n`. -/
def frameAs (codes : Fin 9 → Byte) (c : Byte) (p : List Byte) (n : Nat) (k : Fin 9) : Option Instr :=
  if codes k = c then
    match frameInstr k p with
    | some i => if responseLength i = some n then some i else none
    | none => none
  else none

/-- A request frame under the command bytes `codes`, for a response of `n` bytes. The commands are tried
in the order of k (log 16); frames outside the nine are rejected (R112). -/
def decodeFrameWith (codes : Fin 9 → Byte) (f : List Byte) (n : Nat) : Except DecodeError Instr :=
  match f with
  | [] => .error .noBytes
  | c :: p =>
    match commandIndices.findSome? (frameAs codes c p n) with
    | some i => .ok i
    | none => .error .unknownFrame

/-- A request frame under the machine's own command bytes (R5). -/
def decodeFrame (f : List Byte) (n : Nat) : Except DecodeError Instr :=
  decodeFrameWith Config.cmdCode f n

/-! ### The encoder -/

/-- The bytes of an instruction under the command bytes `codes`: the operation word of R92 and R93, or the
request frame `[c] ++ payload` of R95 and R99 to R107. -/
def encodeWith (codes : Fin 9 → Byte) : Instr → List Byte
  | .csum => [0x01]
  | .enc => [0x02]
  | .val => [0x03]
  | .csv => [0x04]
  | .dst => [0x05]
  | .did => [0x06]
  | .clre => [0x07]
  | .rqPing => [0x10]
  | .rqReset => [0x11]
  | .rqInit => [0x12]
  | .rqGetst => [0x13]
  | .rqExit => [0x14]
  | .rqRdfl => [0x15]
  | .rqRdid => [0x16]
  | .rqWrps => [0x17]
  | .rqRdps => [0x18]
  | .rsPing => [0x20]
  | .rsReset => [0x21]
  | .rsInit => [0x22]
  | .rsGetst => [0x23]
  | .rsExit => [0x24]
  | .rsRdfl => [0x25]
  | .rsRdid => [0x26]
  | .rsWrps => [0x27]
  | .rsRdps => [0x28]
  | .reserved w => [w]
  | .wirePing => [codes 0]
  | .wireReset => [codes 1]
  | .wireInit => [codes 2]
  | .wireGetst => [codes 3]
  | .wireExit => [codes 4]
  | .wireRdfl a n => [codes 5, a.extractLsb' 8 8, a.extractLsb' 0 8, n]
  | .wireRdid => [codes 6]
  | .wireWrps a v => [codes 7, a.extractLsb' 8 8, a.extractLsb' 0 8, v]
  | .wireRdps a => [codes 8, a.extractLsb' 8 8, a.extractLsb' 0 8]

/-- The bytes of an instruction under the machine's own command bytes (R5). -/
def encode (i : Instr) : List Byte := encodeWith Config.cmdCode i

/-- Whether an instruction is an operation word, requested by a write of `OPW` (R91), and not a wire frame. -/
def isOperation (i : Instr) : Bool := (responseLength i).isNone

end Sys2Proof
end

