-- ==== Sys2Proof/Machine/State.lean ====
section
/-! DEFINITION. The state of TMLF: exactly the registers of 10_state.md R21 to R34 (R20), and beside them
`env`, the model's own record of the world outside the block. -/

namespace Sys2Proof.Machine

/-- The error kinds of 60_exceptions.md R200, in the order of their codes 1 to 8. -/
inductive ErrKind where
  | transportError
  | acknowledgementMismatch
  | lengthMismatch
  | checksumError
  | bufferSizeMismatch
  | invalidArgument
  | illegalOperation
  | sequenceError
  deriving DecidableEq, Repr

/-- The registers `ST.<field>` (10_state.md R28). -/
inductive StatusField where
  | signature | versionMajor | versionMinor
  | cmdReadflash | appAutorun | useWdtReset | twoStepInit
  | cmdSetpgaddr | appUseTplPg | autoPageAddr | enableLedUi
  | eepromAccess | cmdReaddevs | checkPageIx | clearBit7R31 | forceErasePage | autoClkTweak
  | bootloaderStart | applicationStart | lowFuseSetting | oscillatorCal
  deriving DecidableEq, Repr

/-- The registers `ID.<field>` (10_state.md R29). -/
inductive DevIdField where
  | lowFuseBits | highFuseBits | extendedFuseBits | lockBits
  | signatureByte0 | signatureByte1 | signatureByte2 | calibration0 | calibration1
  deriving DecidableEq, Repr

/-- The names by which the host reaches registers (10_state.md R37); a byte of a buffer by its index (R60). -/
inductive Reg where
  | cmd | explen | addr | len | wval | opw
  | tx (i : Fin 4) | txlen
  | sum
  | st (f : StatusField)
  | id (f : DevIdField)
  | kidx | err | estk | vld
  | pay (i : Fin 257) | paylen
  | rx (i : Fin 258) | rxlen
  | pl (i : Fin 3) | pllen
  | sec (i : Fin 3) | seclen
  deriving DecidableEq, Repr

/-- One action of the host (30_encoding.md R114), or of the world around the block. -/
inductive HostAction where
  /-- `WR reg, v` (R37); `WR OPW, w` requests the operation w (R31) -/
  | wr (r : Reg) (v : Nat)
  /-- `RD reg` (R37) -/
  | rd (r : Reg)
  /-- `LD.PL s` (R38) -/
  | ldPl (s : List Byte)
  /-- `LD.SEC s` (R38) -/
  | ldSec (s : List Byte)
  /-- `LD.RX s` (R38) -/
  | ldRx (s : List Byte)
  /-- `LD.PAY s` (R38) -/
  | ldPay (s : List Byte)
  /-- the pseudo-operation `XCHG` (R115): one exchange through the transport -/
  | xchg
  /-- the reset input is asserted (R230) -/
  | reset
  /-- the host's choice by `ERR` (R197 b, R115 "if `ERR` = 0"): skip the next n actions when `ERR` is not 0 -/
  | skipIfErr (n : Nat)
  /-- the dispatcher's loop (R219) for command k with `left` attempts still allowed, this one included -/
  | attempt (k : Fin 9) (left : Nat)
  deriving DecidableEq, Repr

/-- What left the block: a value read by the host, or an exchange with the peer. -/
inductive Event where
  /-- `RD r` delivered `v`, zero-extended to 16 bits (log 15) -/
  | read (r : Reg) (v : BitVec 16)
  /-- one transaction of the transport (R75): `write_bytes`, `read_length`, and the answer, `none` for a failure -/
  | exchange (sent : List Byte) (readLength : Nat) (answer : Option (List Byte))
  deriving DecidableEq, Repr

/-- The register file `ST` (10_state.md R28). -/
structure StatusRec where
  signature : Byte
  versionMajor : Byte
  versionMinor : Byte
  cmdReadflash : Bool
  appAutorun : Bool
  useWdtReset : Bool
  twoStepInit : Bool
  cmdSetpgaddr : Bool
  appUseTplPg : Bool
  autoPageAddr : Bool
  enableLedUi : Bool
  eepromAccess : Bool
  cmdReaddevs : Bool
  checkPageIx : Bool
  clearBit7R31 : Bool
  forceErasePage : Bool
  autoClkTweak : Bool
  bootloaderStart : Addr
  applicationStart : Addr
  lowFuseSetting : Byte
  oscillatorCal : Byte
  deriving DecidableEq, Repr

/-- The register file `ID` (10_state.md R29). -/
structure DevIdRec where
  lowFuseBits : Byte
  highFuseBits : Byte
  extendedFuseBits : Byte
  lockBits : Byte
  signatureByte0 : Byte
  signatureByte1 : Byte
  signatureByte2 : Byte
  calibration0 : Byte
  calibration1 : Byte
  deriving DecidableEq, Repr

/-- The model's own fields: the world outside the block (log 7, log 14, log 15, log 19). No operation of
the block reads or writes them. -/
structure Env where
  /-- the host's actions still to come, oldest first (log 7) -/
  script : List HostAction
  /-- the transport's answers still to come, oldest first; `none` is a failure (log 14) -/
  inbox : List (Option (List Byte))
  /-- what left the block, oldest first (log 15) -/
  events : List Event
  /-- the error code the host last recorded for an exchange or an attempt, 0 for none (R115, R201, R219; log 15) -/
  hostErr : BitVec 4
  /-- how many free values were drawn (log 19) -/
  draws : Nat
  deriving DecidableEq, Repr

/-- The registers of TMLF. A buffer is the byte sequence of 00_scope.md R11; its length register is the
length of the sequence (log 6). -/
structure State where
  /-- `CMD` (R21) -/
  cmd : Byte
  /-- `EXPLEN` (R21) -/
  explen : Len9
  /-- `ADDR` (R21) -/
  addr : Addr
  /-- `LEN` (R21) -/
  len : Byte
  /-- `WVAL` (R21) -/
  wval : Byte
  /-- `PL`, `PLLEN` (R22) -/
  pl : List Byte
  /-- `SEC`, `SECLEN` (R23) -/
  sec : List Byte
  /-- `RX`, `RXLEN` (R24) -/
  rx : List Byte
  /-- `TX`, `TXLEN` (R25) -/
  tx : List Byte
  /-- `TXV` (R25) -/
  txv : Bool
  /-- `PAY`, `PAYLEN` (R26) -/
  pay : List Byte
  /-- `PAYV` (R26) -/
  payv : Bool
  /-- `SUM` (R27) -/
  sum : Byte
  /-- `SUMV` (R27) -/
  sumv : Bool
  /-- `ST.*` (R28) -/
  st : StatusRec
  /-- `STV` (R28) -/
  stv : Bool
  /-- `ID.*` (R29) -/
  devId : DevIdRec
  /-- `IDV` (R29) -/
  idv : Bool
  /-- `KIDX` (R30) -/
  kidx : BitVec 4
  /-- `CALLV` (R30) -/
  callv : Bool
  /-- `OPW` (R31) -/
  opw : Byte
  /-- `ERR` (R32) -/
  err : BitVec 4
  /-- `ESTK` (R33) -/
  estk : Byte
  /-- the model's own fields -/
  env : Env
  deriving DecidableEq, Repr

/-- Reasons the machine stops with a fault. There are none: "Every operation is atomic and total" (R13), and
what the spec calls errors are next states (R211; log 27). -/
inductive Fault where
  deriving DecidableEq, Repr

/-- Reasons a step has no meaning. -/
inductive Refusal where
  /-- An instruction without a meaning yet. Raised by no arm. Safe. -/
  | notModelled (mnemonic : String)
  /-- A host load longer than its buffer: "not a host action: the interface cannot express it, and a model gives
  it no step" (R38, U18; log 11). Raised by `LD.PL`, `LD.SEC`, `LD.PAY`. Safe. -/
  | loadTooLong
  /-- A dispatcher call with no attempt allowed: the source does not say what `max_attempts` = 0 does (R222,
  U20; log 17). Raised by the host action `attempt`, never by the block. Safe. -/
  | noAttempts
  deriving DecidableEq, Repr

/-- The Status record register file at reset: "unspecified" (R41); DESIGN CHOICE zero (log 4), not readable
while `STV` = 0. -/
def StatusRec.reset : StatusRec :=
  { signature := 0, versionMajor := 0, versionMinor := 0
    cmdReadflash := false, appAutorun := false, useWdtReset := false, twoStepInit := false
    cmdSetpgaddr := false, appUseTplPg := false, autoPageAddr := false, enableLedUi := false
    eepromAccess := false, cmdReaddevs := false, checkPageIx := false, clearBit7R31 := false
    forceErasePage := false, autoClkTweak := false
    bootloaderStart := 0, applicationStart := 0, lowFuseSetting := 0, oscillatorCal := 0 }

/-- The Device Identification register file at reset: as `StatusRec.reset` (R41; log 4). -/
def DevIdRec.reset : DevIdRec :=
  { lowFuseBits := 0, highFuseBits := 0, extendedFuseBits := 0, lockBits := 0
    signatureByte0 := 0, signatureByte1 := 0, signatureByte2 := 0, calibration0 := 0, calibration1 := 0 }

/-- The world outside right after reset: nothing to come and nothing seen (log 7, log 14, log 15, log 19). -/
def Env.reset : Env := { script := [], inbox := [], events := [], hostErr := 0, draws := 0 }

/-- The state after reset (R41, R230). `SUM`, `ST.*` and `ID.*` are "unspecified" there and not readable,
their valid bits being 0 (log 4). -/
def State.reset : State :=
  { cmd := 0, explen := 0, addr := 0, len := 0, wval := 0
    pl := [], sec := [], rx := [], tx := [], txv := false
    pay := [], payv := false, sum := 0, sumv := false
    st := StatusRec.reset, stv := false, devId := DevIdRec.reset, idv := false
    kidx := 0, callv := false, opw := 0x00, err := 0, estk := 0x00
    env := Env.reset }

end Sys2Proof.Machine
end

