-- ==== Sys2Proof/Machine/Flags.lean ====
section
/-! DEFINITION. The flags: the valid bits, and the codes of `ERR` and `ESTK` (10_state.md R32 to R36, R39;
60_exceptions.md R200). -/

namespace Sys2Proof.Machine

/-- The `ERR` code of an error kind (R200). -/
def ErrKind.code : ErrKind → BitVec 4
  | .transportError => 1
  | .acknowledgementMismatch => 2
  | .lengthMismatch => 3
  | .checksumError => 4
  | .bufferSizeMismatch => 5
  | .invalidArgument => 6
  | .illegalOperation => 7
  | .sequenceError => 8

/-- The bit of `ESTK` for the error with code c: bit c-1 (R33, R200). -/
def stickyBit (c : BitVec 4) : Byte := 1#8 <<< (c.toNat - 1)

/-- `VLD`: bit 0 `TXV`, bit 1 `PAYV`, bit 2 `SUMV`, bit 3 `STV`, bit 4 `IDV`, bit 5 `CALLV`, bits 7:6 zero (R34). -/
def vld (s : State) : Byte :=
  0#2 ++ BitVec.ofBool s.callv ++ BitVec.ofBool s.idv ++ BitVec.ofBool s.stv ++ BitVec.ofBool s.sumv
    ++ BitVec.ofBool s.payv ++ BitVec.ofBool s.txv

/-- `invalidate_derived()` (R39). -/
def invalidateDerived (s : State) : State := { s with sumv := false, stv := false, idv := false }

/-- `PAYV <- 0; PAYLEN <- 0`, as `VAL`, `CSV`, `begin_call()` and the response consumers do it (R143, R133, R160, R180). -/
def dropPayload (s : State) : State := { s with payv := false, pay := [] }

/-- A host write to a context register clears `CALLV` (R44). -/
def closeCall (s : State) : State := { s with callv := false }

end Sys2Proof.Machine
end

