-- ==== Sys2Proof/Machine/Ops.lean ====
section
/-! DEFINITION. The shared operations: the entry of an error and what stands for the return from one
(60_exceptions.md R211, R213), and the buffers (20_memory.md R60, R61, R76). -/

namespace Sys2Proof.Machine

/-! ### Errors -/

/-- `raise K` (R211): `ERR <- c; ESTK[c-1] <- 1`, and nothing else; the operation ends there. -/
def raise (k : ErrKind) (s : State) : State :=
  { s with err := k.code, estk := s.estk ||| stickyBit k.code }

/-- `ERR <- 0`, the first step of every operation (R32): the only return from an error there is (R213). -/
def startOp (s : State) : State := { s with err := 0 }

/-! ### Buffers -/

/-- The address spaces inside the block (R60). -/
inductive Space where
  | pl | sec | tx | rx | pay
  deriving DecidableEq, Repr

/-- The capacity of a space (R8, R60). -/
def Space.cap : Space → Nat
  | .pl => Config.plCap
  | .sec => Config.secCap
  | .tx => Config.txCap
  | .rx => Config.rxCap
  | .pay => Config.payCap

/-- The sequence a buffer register denotes (R11). -/
def buffer (b : Space) (s : State) : List Byte :=
  match b with
  | .pl => s.pl
  | .sec => s.sec
  | .tx => s.tx
  | .rx => s.rx
  | .pay => s.pay

/-- `BUF <- v` (R11): the sequence and with it the length register. -/
def setBuffer (b : Space) (v : List Byte) (s : State) : State :=
  match b with
  | .pl => { s with pl := v }
  | .sec => { s with sec := v }
  | .tx => { s with tx := v }
  | .rx => { s with rx := v }
  | .pay => { s with pay := v }

/-- The canonical form of the buffers: each length is within the capacity of R8. -/
def Memory.wf (s : State) : Bool :=
  s.pl.length ≤ Config.plCap && s.sec.length ≤ Config.secCap && s.tx.length ≤ Config.txCap
    && s.rx.length ≤ Config.rxCap && s.pay.length ≤ Config.payCap

/-- `MemRead(space, i, n)`: the bytes i to i+n-1, defined only when i + n is at most the length register (R76). -/
def memRead (b : Space) (i n : Nat) (s : State) : Option (List Byte) :=
  if i + n ≤ (buffer b s).length then some (((buffer b s).drop i).take n) else none

/-- `l` with the bytes from index `i` on overwritten by `v`; an index at or beyond the length holds no
content (R61), so nothing is kept of a byte written there and the length stays. -/
def overwrite (l : List Byte) (i : Nat) (v : List Byte) : List Byte :=
  l.mapIdx fun j b => if i ≤ j then v.getD (j - i) b else b

/-- `MemWrite(space, i, n, v)`, n the length of `v`: defined only when i + n is at most the capacity (R76). -/
def memWrite (b : Space) (i : Nat) (v : List Byte) (s : State) : Option State :=
  if i + v.length ≤ b.cap then some (setBuffer b (overwrite (buffer b s) i v) s) else none

/-- Byte i of a sequence. Every rule calls it with i below the length, and that is checked before. -/
def byteAt (b : List Byte) (i : Nat) : Byte := b.getD i 0

/-- `LD.RX s` (R38): the first 258 bytes, `RXLEN` saturating at 258 (R24). Nothing else changes. -/
def loadRx (v : List Byte) (s : State) : State := { s with rx := v.take Config.rxCap }

/-- `LD.PAY s` (R38). -/
def loadPay (v : List Byte) (s : State) : State := { invalidateDerived s with pay := v, payv := true }

/-- `PAY <- v; PAYV <- 1`, the end of a successful validation (R143, R180). -/
def deliverPayload (v : List Byte) (s : State) : State := { s with pay := v, payv := true }

/-! ### The world outside -/

/-- Records what left the block (log 15). -/
def record (e : Event) (s : State) : State :=
  { s with env := { s.env with events := s.env.events ++ [e] } }

/-- One free value is used up (log 19). -/
def draw (s : State) : State := { s with env := { s.env with draws := s.env.draws + 1 } }

/-- The host records the error code of an exchange or an attempt, 0 for none (R115, R201, R219). -/
def setHostErr (c : BitVec 4) (s : State) : State := { s with env := { s.env with hostErr := c } }

/-- The host's remaining actions. -/
def setScript (l : List HostAction) (s : State) : State := { s with env := { s.env with script := l } }

/-- The host puts an action before its remaining ones. -/
def pushAction (a : HostAction) (s : State) : State := setScript (a :: s.env.script) s

end Sys2Proof.Machine
end

