-- ==== Sys2Proof/Machine/Operands.lean ====
section
/-! DEFINITION. Operands: the bytes of a request (30_encoding.md R98), and the host's access to the registers
by name (10_state.md R37, R40, R44). -/

namespace Sys2Proof.Machine

/-- `addr_hi` = `ADDR[15:8]` (R98). -/
def addrHi (s : State) : Byte := s.addr.extractLsb' 8 8

/-- `addr_lo` = `ADDR[7:0]` (R98). -/
def addrLo (s : State) : Byte := s.addr.extractLsb' 0 8

/-! ### RD -/

/-- A flag as the value a read delivers. -/
def flagValue (b : Bool) : BitVec 16 := if b then 1 else 0

/-- A length register as the value a read delivers. -/
def lengthValue (l : List Byte) : BitVec 16 := BitVec.ofNat 16 l.length

/-- Byte i of a buffer, if it holds content (R61). -/
def bufferByte (b : Space) (i : Nat) (s : State) : Option (BitVec 16) :=
  (memRead b i 1 s).map fun l => (byteAt l 0).setWidth 16

/-- The value of `ST.<f>` (R28). -/
def statusValue (r : StatusRec) : StatusField → BitVec 16
  | .signature => r.signature.setWidth 16
  | .versionMajor => r.versionMajor.setWidth 16
  | .versionMinor => r.versionMinor.setWidth 16
  | .cmdReadflash => flagValue r.cmdReadflash
  | .appAutorun => flagValue r.appAutorun
  | .useWdtReset => flagValue r.useWdtReset
  | .twoStepInit => flagValue r.twoStepInit
  | .cmdSetpgaddr => flagValue r.cmdSetpgaddr
  | .appUseTplPg => flagValue r.appUseTplPg
  | .autoPageAddr => flagValue r.autoPageAddr
  | .enableLedUi => flagValue r.enableLedUi
  | .eepromAccess => flagValue r.eepromAccess
  | .cmdReaddevs => flagValue r.cmdReaddevs
  | .checkPageIx => flagValue r.checkPageIx
  | .clearBit7R31 => flagValue r.clearBit7R31
  | .forceErasePage => flagValue r.forceErasePage
  | .autoClkTweak => flagValue r.autoClkTweak
  | .bootloaderStart => r.bootloaderStart
  | .applicationStart => r.applicationStart
  | .lowFuseSetting => r.lowFuseSetting.setWidth 16
  | .oscillatorCal => r.oscillatorCal.setWidth 16

/-- The value of `ID.<f>` (R29). -/
def devIdValue (r : DevIdRec) : DevIdField → BitVec 16
  | .lowFuseBits => r.lowFuseBits.setWidth 16
  | .highFuseBits => r.highFuseBits.setWidth 16
  | .extendedFuseBits => r.extendedFuseBits.setWidth 16
  | .lockBits => r.lockBits.setWidth 16
  | .signatureByte0 => r.signatureByte0.setWidth 16
  | .signatureByte1 => r.signatureByte1.setWidth 16
  | .signatureByte2 => r.signatureByte2.setWidth 16
  | .calibration0 => r.calibration0.setWidth 16
  | .calibration1 => r.calibration1.setWidth 16

/-- What `RD r` delivers, zero-extended to 16 bits; `none` where the register "holds no specified value"
(R40): a result register whose valid bit is 0, a byte at or above its buffer's length. -/
def regValue (r : Reg) (s : State) : Option (BitVec 16) :=
  match r with
  | .cmd => some (s.cmd.setWidth 16)
  | .explen => some (s.explen.setWidth 16)
  | .addr => some s.addr
  | .len => some (s.len.setWidth 16)
  | .wval => some (s.wval.setWidth 16)
  | .opw => some (s.opw.setWidth 16)
  | .tx i => if s.txv then bufferByte .tx i.val s else none
  | .txlen => some (lengthValue s.tx)
  | .sum => if s.sumv then some (s.sum.setWidth 16) else none
  | .st f => if s.stv then some (statusValue s.st f) else none
  | .id f => if s.idv then some (devIdValue s.devId f) else none
  | .kidx => some (s.kidx.setWidth 16)
  | .err => some (s.err.setWidth 16)
  | .estk => some (s.estk.setWidth 16)
  | .vld => some ((vld s).setWidth 16)
  | .pay i => if s.payv then bufferByte .pay i.val s else none
  | .paylen => some (lengthValue s.pay)
  | .rx i => bufferByte .rx i.val s
  | .rxlen => some (lengthValue s.rx)
  | .pl i => bufferByte .pl i.val s
  | .pllen => some (lengthValue s.pl)
  | .sec i => bufferByte .sec i.val s
  | .seclen => some (lengthValue s.sec)

/-- The width of `ST.<f>` (R28). -/
def StatusField.width : StatusField → Nat
  | .signature | .versionMajor | .versionMinor | .lowFuseSetting | .oscillatorCal => 8
  | .bootloaderStart | .applicationStart => 16
  | .cmdReadflash | .appAutorun | .useWdtReset | .twoStepInit | .cmdSetpgaddr | .appUseTplPg
  | .autoPageAddr | .enableLedUi | .eepromAccess | .cmdReaddevs | .checkPageIx | .clearBit7R31
  | .forceErasePage | .autoClkTweak => 1

/-- The width of a register (R21 to R34). -/
def Reg.width : Reg → Nat
  | .cmd | .len | .wval | .opw | .sum | .estk | .vld => 8
  | .explen | .rxlen | .paylen => 9
  | .addr => 16
  | .st f => f.width
  | .id _ => 8
  | .kidx | .err => 4
  | .txlen => 3
  | .pllen | .seclen => 2
  | .tx _ | .pay _ | .rx _ | .pl _ | .sec _ => 8

/-- The free value a read of `r` delivers when r holds no specified value: any value of the register's width
(R40; log 5). -/
def freeValue (r : Reg) (n : Nat) : BitVec 16 := ((Config.unspecified n).setWidth r.width).setWidth 16

/-- `RD r`: the host receives the value; the block does not change (R68, "every `RD` is idempotent"). -/
def readReg (r : Reg) (s : State) : State :=
  match regValue r s with
  | some v => record (.read r v) s
  | none => draw (record (.read r (freeValue r s.env.draws)) s)

/-! ### WR -/

/-- `WR r, v` for every register but `OPW`, truncated to the register's width (R12, R37; log 10). A write of
`CMD` or `EXPLEN` clears `CALLV` (R44). A register the host cannot write keeps its value (R37; log 9). `OPW`
is the request of an operation and is dealt with where the operations are (R31). -/
def writeReg (r : Reg) (v : Nat) (s : State) : State :=
  match r with
  | .cmd => closeCall { s with cmd := BitVec.ofNat 8 v }
  | .explen => closeCall { s with explen := BitVec.ofNat 9 v }
  | .addr => { s with addr := BitVec.ofNat 16 v }
  | .len => { s with len := BitVec.ofNat 8 v }
  | .wval => { s with wval := BitVec.ofNat 8 v }
  | .opw => { s with opw := BitVec.ofNat 8 v }
  | .tx _ | .txlen | .sum | .st _ | .id _ | .kidx | .err | .estk | .vld
  | .pay _ | .paylen | .rx _ | .rxlen | .pl _ | .pllen | .sec _ | .seclen => s

/-- `LD.PL s` (R38, R44). -/
def loadPl (v : List Byte) (s : State) : State := closeCall { s with pl := v }

/-- `LD.SEC s` (R38, R44). -/
def loadSec (v : List Byte) (s : State) : State := closeCall { s with sec := v }

end Sys2Proof.Machine
end

