-- ==== Sys2Proof/Machine/Checksum.lean ====
section
/-! DEFINITION. The checksum unit (40_checksum.md): `CSUM`, `CSV`. -/

namespace Sys2Proof.Machine

/-- `checksum(P, S)`: the sum of all bytes of both sequences, modulo 256 (R130). -/
def checksum (p s : List Byte) : Byte :=
  BitVec.ofNat 8 ((p.map BitVec.toNat).sum + (s.map BitVec.toNat).sum)

/-- `strip_verify(p, S)`: the data bytes, if the trailing byte of `p` is the checksum of the bytes before it
and `S` (R134). -/
def stripVerify (p s : List Byte) : Except ErrKind (List Byte) :=
  match p.getLast? with
  | none => .error .checksumError
  | some c => if checksum p.dropLast s = c then .ok p.dropLast else .error .checksumError

/-- `SUM <- c; SUMV <- 1`. -/
def setSum (c : Byte) (s : State) : State := { s with sum := c, sumv := true }

/-- `strip_verify` on the registers: the part of `CSV` after its valid-bit test (R133), and the CHECKSUM tail
of the response consumers (R180). With no byte to compare there is no sum (R133); a consumer never
meets that case (log 18). -/
def verifyPayload (s : State) : State :=
  match s.pay.getLast? with
  | none => raise .checksumError (dropPayload s)
  | some c =>
    if checksum s.pay.dropLast s.sec = c then
      { setSum (checksum s.pay.dropLast s.sec) s with pay := s.pay.dropLast }
    else
      raise .checksumError (dropPayload (setSum (checksum s.pay.dropLast s.sec) s))

/-- `CSUM` on the registers (R132). -/
def csum (s : State) : State :=
  if s.payv then setSum (checksum s.pay s.sec) (startOp s)
  else raise .sequenceError { startOp s with sumv := false }

/-- `CSV` on the registers (R133). -/
def csv (s : State) : State :=
  if s.payv then verifyPayload (invalidateDerived (startOp s))
  else raise .sequenceError (invalidateDerived (startOp s))

/-- `CSUM` (R132). -/
def execCsum (s : State) : Host.Outcome State Fault Refusal := .next (csum s)

/-- `CSV` (R133). -/
def execCsv (s : State) : Host.Outcome State Fault Refusal := .next (csv s)

end Sys2Proof.Machine
end

