-- ==== Sys2Proof/Machine/Codec.lean ====
section
/-! DEFINITION. The frame codec (41_frame_codec.md): `ENC`, `VAL`. -/

namespace Sys2Proof.Machine

/-- `encode_request(c, p)` (R140). -/
def encodeRequest (c : Byte) (p : List Byte) : List Byte := c :: p

/-- The acknowledgement byte of a command byte (R97). -/
def ackByte (c : Byte) : Byte := c ^^^ 0xFF

/-- `validate_response(c, r, n)`, its tests in this order (R141, R210). -/
def validateResponse (c : Byte) (r : List Byte) (n : Nat) : Except ErrKind (List Byte) :=
  match r with
  | [] => .error .lengthMismatch
  | a :: d =>
    if a ≠ ackByte c then .error .acknowledgementMismatch
    else if r.length ≠ n then .error .lengthMismatch
    else .ok d

/-- `TX <- encode_request(CMD, PL); TXV <- 1` (R142, R160). -/
def makeFrame (s : State) : State := { s with tx := encodeRequest s.cmd s.pl, txv := true }

/-- The validate step of `VAL` (R143) and of the response consumers (R180): on success `PAY` holds the payload
and `rest` runs, on an error nothing further does. -/
def validateThen (rest : State → State) (s : State) : State :=
  match validateResponse s.cmd s.rx s.explen.toNat with
  | .error e => raise e s
  | .ok v => rest (deliverPayload v s)

/-- `VAL` on the registers (R143). -/
def val (s : State) : State :=
  if 257 < s.explen.toNat then raise .invalidArgument (dropPayload (invalidateDerived (startOp s)))
  else validateThen id (dropPayload (invalidateDerived (startOp s)))

/-- `ENC` (R142). -/
def execEnc (s : State) : Host.Outcome State Fault Refusal := .next (makeFrame (startOp s))

/-- `VAL` (R143). -/
def execVal (s : State) : Host.Outcome State Fault Refusal := .next (val s)

end Sys2Proof.Machine
end

