-- ==== Sys2Proof/Machine/Records.lean ====
section
/-! DEFINITION. The record unpacker (42_record_decoders.md; layouts 30_encoding.md R108 to R111, R116): `DST`, `DID`. -/

namespace Sys2Proof.Machine

/-- A 16-bit record field at offset o: the byte at the lower offset is the less significant (R116, R63). -/
def recordWord (b : List Byte) (o : Nat) : Addr :=
  (byteAt b o).setWidth 16 ||| ((byteAt b (o + 1)).setWidth 16 <<< 8)

/-- The fields of a Status record (R150, R108): the feature byte at offset 3 (R109), the extended feature byte
at offset 4, whose bits 7:6 are ignored (R110, D17). -/
def statusFields (b : List Byte) : StatusRec :=
  { signature := byteAt b 0
    versionMajor := byteAt b 1
    versionMinor := byteAt b 2
    cmdReadflash := (byteAt b 3).getLsbD 7
    appAutorun := (byteAt b 3).getLsbD 6
    useWdtReset := (byteAt b 3).getLsbD 5
    twoStepInit := (byteAt b 3).getLsbD 4
    cmdSetpgaddr := (byteAt b 3).getLsbD 3
    appUseTplPg := (byteAt b 3).getLsbD 2
    autoPageAddr := (byteAt b 3).getLsbD 1
    enableLedUi := (byteAt b 3).getLsbD 0
    eepromAccess := (byteAt b 4).getLsbD 5
    cmdReaddevs := (byteAt b 4).getLsbD 4
    checkPageIx := (byteAt b 4).getLsbD 3
    clearBit7R31 := (byteAt b 4).getLsbD 2
    forceErasePage := (byteAt b 4).getLsbD 1
    autoClkTweak := (byteAt b 4).getLsbD 0
    bootloaderStart := recordWord b 5
    applicationStart := recordWord b 7
    lowFuseSetting := byteAt b 9
    oscillatorCal := byteAt b 10 }

/-- The fields of a Device Identification record (R151, R111). -/
def devIdFields (b : List Byte) : DevIdRec :=
  { lowFuseBits := byteAt b 0
    highFuseBits := byteAt b 1
    extendedFuseBits := byteAt b 2
    lockBits := byteAt b 3
    signatureByte0 := byteAt b 4
    signatureByte1 := byteAt b 5
    signatureByte2 := byteAt b 6
    calibration0 := byteAt b 7
    calibration1 := byteAt b 8 }

/-- `decode_status(b)` (R150). -/
def decodeStatus (b : List Byte) : Except ErrKind StatusRec :=
  if b.length ≠ Config.statusLen then .error .bufferSizeMismatch else .ok (statusFields b)

/-- `decode_device_id(b)` (R151). -/
def decodeDeviceId (b : List Byte) : Except ErrKind DevIdRec :=
  if b.length ≠ Config.devIdLen then .error .bufferSizeMismatch else .ok (devIdFields b)

/-- Unpack `PAY` into `ST.*`: the end of `DST` (R152) and the STATUS tail (R180). -/
def unpackStatus (s : State) : State :=
  match decodeStatus s.pay with
  | .error e => raise e s
  | .ok r => { s with st := r, stv := true }

/-- Unpack `PAY` into `ID.*`: the end of `DID` (R153) and the DEVID tail (R180). -/
def unpackDevId (s : State) : State :=
  match decodeDeviceId s.pay with
  | .error e => raise e s
  | .ok r => { s with devId := r, idv := true }

/-- `DST` on the registers (R152). -/
def dst (s : State) : State :=
  if s.payv then unpackStatus { startOp s with stv := false }
  else raise .sequenceError { startOp s with stv := false }

/-- `DID` on the registers (R153). -/
def did (s : State) : State :=
  if s.payv then unpackDevId { startOp s with idv := false }
  else raise .sequenceError { startOp s with idv := false }

/-- `DST` (R152). -/
def execDst (s : State) : Host.Outcome State Fault Refusal := .next (dst s)

/-- `DID` (R153). -/
def execDid (s : State) : Host.Outcome State Fault Refusal := .next (did s)

end Sys2Proof.Machine
end

