-- ==== Sys2Proof/Machine/Builders.lean ====
section
/-! DEFINITION. The request builders (43_request_builders.md): `RQ.PING` to `RQ.RDPS`. -/

namespace Sys2Proof.Machine

/-- `KIDX` holds a command index (R30). -/
def indexBits (k : Fin 9) : BitVec 4 := BitVec.ofNat 4 k.val

/-- `begin_call()` (R160). -/
def beginCall (s : State) : State :=
  { dropPayload (invalidateDerived s) with rx := [], txv := false, tx := [], callv := false }

/-- The part of a builder after its precondition (R160): the context of command k with payload `p`, secondary
sequence `q` and expected length `n`, then the frame, then the call is open. -/
def openCall (k : Fin 9) (p q : List Byte) (n : Len9) (s : State) : State :=
  { makeFrame { s with cmd := Config.cmdCode k, pl := p, sec := q, explen := n } with
      kidx := indexBits k, callv := true }

/-- A builder without a precondition (R160). -/
def buildRequest (k : Fin 9) (p q : List Byte) (n : Len9) (s : State) : State :=
  openCall k p q n (beginCall (startOp s))

/-- `RQ.RDFL` on the registers, under any largest read length `m` (R166): the precondition, then the context. -/
def buildReadFlashWith (m : Byte) (s : State) : State :=
  if s.len ≤ m then
    buildRequest 5 [addrHi s, addrLo s, s.len] [addrHi s, addrLo s] (2 + s.len.setWidth 9) s
  else raise .invalidArgument (beginCall (startOp s))

/-- `RQ.RDFL` on the registers: the largest read length is `MAX_READ_LEN` (R6, R166). -/
def buildReadFlash (s : State) : State := buildReadFlashWith Config.maxReadLen s

/-- `RQ.PING` (R161). -/
def execRqPing (s : State) : Host.Outcome State Fault Refusal := .next (buildRequest 0 [] [] 1 s)

/-- `RQ.RESET` (R162). -/
def execRqReset (s : State) : Host.Outcome State Fault Refusal := .next (buildRequest 1 [] [] 1 s)

/-- `RQ.INIT` (R163). -/
def execRqInit (s : State) : Host.Outcome State Fault Refusal := .next (buildRequest 2 [] [] 1 s)

/-- `RQ.GETST` (R164). -/
def execRqGetst (s : State) : Host.Outcome State Fault Refusal := .next (buildRequest 3 [] [] 12 s)

/-- `RQ.EXIT` (R165). -/
def execRqExit (s : State) : Host.Outcome State Fault Refusal := .next (buildRequest 4 [] [] 1 s)

/-- `RQ.RDFL` (R166). -/
def execRqRdfl (s : State) : Host.Outcome State Fault Refusal := .next (buildReadFlash s)

/-- `RQ.RDID` (R167). -/
def execRqRdid (s : State) : Host.Outcome State Fault Refusal := .next (buildRequest 6 [] [] 10 s)

/-- `RQ.WRPS` (R168). -/
def execRqWrps (s : State) : Host.Outcome State Fault Refusal :=
  .next (buildRequest 7 [addrHi s, addrLo s, s.wval] [s.wval, addrHi s, addrLo s] 2 s)

/-- `RQ.RDPS` (R169). -/
def execRqRdps (s : State) : Host.Outcome State Fault Refusal :=
  .next (buildRequest 8 [addrHi s, addrLo s] [addrHi s, addrLo s] 3 s)

end Sys2Proof.Machine
end

