-- ==== Sys2Proof/Machine/Consumers.lean ====
section
/-! DEFINITION. The response consumers (44_response_consumers.md): `RS.PING` to `RS.RDPS`. -/

namespace Sys2Proof.Machine

/-- The common part of the consumer of command k, and its tail (R180). DEDUCED (log 25): the sequence test changes
nothing else when it fails, as R180 writes it, so that `IDV`, `PAYV` and `PAY` then keep their values, where
R187 and R189 say that they do not "after any raise". -/
def consume (k : Fin 9) (tail : State → State) (s : State) : State :=
  if s.callv = true ∧ s.kidx = indexBits k then
    validateThen tail (dropPayload (invalidateDerived (startOp s)))
  else raise .sequenceError (startOp s)

/-- `RS.PING`, tail NONE (R181). -/
def execRsPing (s : State) : Host.Outcome State Fault Refusal := .next (consume 0 id s)

/-- `RS.RESET`, tail NONE (R182). -/
def execRsReset (s : State) : Host.Outcome State Fault Refusal := .next (consume 1 id s)

/-- `RS.INIT`, tail NONE (R183). -/
def execRsInit (s : State) : Host.Outcome State Fault Refusal := .next (consume 2 id s)

/-- `RS.GETST`, tail STATUS (R184). -/
def execRsGetst (s : State) : Host.Outcome State Fault Refusal := .next (consume 3 unpackStatus s)

/-- `RS.EXIT`, tail NONE (R185). -/
def execRsExit (s : State) : Host.Outcome State Fault Refusal := .next (consume 4 id s)

/-- `RS.RDFL`, tail CHECKSUM (R186). -/
def execRsRdfl (s : State) : Host.Outcome State Fault Refusal := .next (consume 5 verifyPayload s)

/-- `RS.RDID`, tail DEVID (R187; for `IDV` after a `SequenceError` log 25). -/
def execRsRdid (s : State) : Host.Outcome State Fault Refusal := .next (consume 6 unpackDevId s)

/-- `RS.WRPS`, tail CHECKSUM (R188). -/
def execRsWrps (s : State) : Host.Outcome State Fault Refusal := .next (consume 7 verifyPayload s)

/-- `RS.RDPS`, tail CHECKSUM (R189; for `PAYV` after a `SequenceError` log 25). -/
def execRsRdps (s : State) : Host.Outcome State Fault Refusal := .next (consume 8 verifyPayload s)

end Sys2Proof.Machine
end

