-- ==== Sys2Proof/Machine/Housekeeping.lean ====
section
/-! DEFINITION. Housekeeping (45_housekeeping.md): `CLRE` and the reserved operation words. -/

namespace Sys2Proof.Machine

/-- `CLRE`: `ERR <- 0; ESTK <- 0x00` (R195). -/
def execClre (s : State) : Host.Outcome State Fault Refusal := .next { startOp s with estk := 0x00 }

/-- A reserved word: `ERR <- 0`, then `raise IllegalOperation`; nothing else changes (R196; log 12). -/
def execReserved (s : State) : Host.Outcome State Fault Refusal :=
  .next (raise .illegalOperation (startOp s))

end Sys2Proof.Machine
end

