-- ==== Sys2Proof/Machine/Wire.lean ====
section
/-! DEFINITION. The wire: one exchange through the transport (20_memory.md R75; 30_encoding.md R115), and the
nine request frames (R99 to R107) as instructions (log 13). -/

namespace Sys2Proof.Machine

/-- What the transport answers now: the next answer of the input, and past its end a free value (R75; log 14). -/
def nextAnswer (sent : List Byte) (n : Nat) (s : State) : Option (List Byte) :=
  match s.env.inbox with
  | a :: _ => a
  | [] => Config.transportAnswer Config.peerAddr s.env.draws sent n

/-- The answer is used up: it leaves the input, or a free value is drawn (log 14). -/
def consumeAnswer (s : State) : State :=
  match s.env.inbox with
  | _ :: rest => { s with env := { s.env with inbox := rest } }
  | [] => draw s

/-- `t <- transact(PEER_ADDR, sent, n)` and what the host does with it: on a failure it records `TransportError`
and `RX` is unchanged, otherwise `LD.RX t` (R115, R201). The block's other registers do not change. -/
def transact (sent : List Byte) (n : Nat) (s : State) : State :=
  match nextAnswer sent n s with
  | none =>
    setHostErr ErrKind.transportError.code (record (.exchange sent n none) (consumeAnswer s))
  | some t => loadRx t (setHostErr 0 (record (.exchange sent n (some t)) (consumeAnswer s)))

/-- PING (R99): the frame `[c]`, a response of 1 byte. -/
def execWirePing (s : State) : Host.Outcome State Fault Refusal :=
  .next (transact (encode .wirePing) 1 s)

/-- RESET (R100). -/
def execWireReset (s : State) : Host.Outcome State Fault Refusal :=
  .next (transact (encode .wireReset) 1 s)

/-- INIT (R101). -/
def execWireInit (s : State) : Host.Outcome State Fault Refusal :=
  .next (transact (encode .wireInit) 1 s)

/-- GETST (R102): a response of 12 bytes. -/
def execWireGetst (s : State) : Host.Outcome State Fault Refusal :=
  .next (transact (encode .wireGetst) 12 s)

/-- EXIT (R103). -/
def execWireExit (s : State) : Host.Outcome State Fault Refusal :=
  .next (transact (encode .wireExit) 1 s)

/-- RDFL (R104): the frame `[c, addr_hi, addr_lo, LEN]`, a response of 2 + `LEN` bytes. -/
def execWireRdfl (addr : Addr) (len : Byte) (s : State) : Host.Outcome State Fault Refusal :=
  .next (transact (encode (.wireRdfl addr len)) (2 + len.toNat) s)

/-- RDID (R105): a response of 10 bytes. -/
def execWireRdid (s : State) : Host.Outcome State Fault Refusal :=
  .next (transact (encode .wireRdid) 10 s)

/-- WRPS (R106): the frame `[c, addr_hi, addr_lo, value]`, a response of 2 bytes. -/
def execWireWrps (addr : Addr) (value : Byte) (s : State) : Host.Outcome State Fault Refusal :=
  .next (transact (encode (.wireWrps addr value)) 2 s)

/-- RDPS (R107): the frame `[c, addr_hi, addr_lo]`, a response of 3 bytes. -/
def execWireRdps (addr : Addr) (s : State) : Host.Outcome State Fault Refusal :=
  .next (transact (encode (.wireRdps addr)) 3 s)

end Sys2Proof.Machine
end

