-- ==== Sys2Proof/Machine/Dispatch.lean ====
section
/-! DEFINITION. One arm per constructor of `Instr`: which meaning an instruction has. -/

namespace Sys2Proof.Machine

/-- The effect of one instruction. -/
def exec (i : Instr) (s : State) : Host.Outcome State Fault Refusal :=
  match i with
  | .csum => Sys2Proof.Machine.execCsum s
  | .enc => Sys2Proof.Machine.execEnc s
  | .val => Sys2Proof.Machine.execVal s
  | .csv => Sys2Proof.Machine.execCsv s
  | .dst => Sys2Proof.Machine.execDst s
  | .did => Sys2Proof.Machine.execDid s
  | .clre => Sys2Proof.Machine.execClre s
  | .rqPing => Sys2Proof.Machine.execRqPing s
  | .rqReset => Sys2Proof.Machine.execRqReset s
  | .rqInit => Sys2Proof.Machine.execRqInit s
  | .rqGetst => Sys2Proof.Machine.execRqGetst s
  | .rqExit => Sys2Proof.Machine.execRqExit s
  | .rqRdfl => Sys2Proof.Machine.execRqRdfl s
  | .rqRdid => Sys2Proof.Machine.execRqRdid s
  | .rqWrps => Sys2Proof.Machine.execRqWrps s
  | .rqRdps => Sys2Proof.Machine.execRqRdps s
  | .rsPing => Sys2Proof.Machine.execRsPing s
  | .rsReset => Sys2Proof.Machine.execRsReset s
  | .rsInit => Sys2Proof.Machine.execRsInit s
  | .rsGetst => Sys2Proof.Machine.execRsGetst s
  | .rsExit => Sys2Proof.Machine.execRsExit s
  | .rsRdfl => Sys2Proof.Machine.execRsRdfl s
  | .rsRdid => Sys2Proof.Machine.execRsRdid s
  | .rsWrps => Sys2Proof.Machine.execRsWrps s
  | .rsRdps => Sys2Proof.Machine.execRsRdps s
  | .reserved _ => Sys2Proof.Machine.execReserved s
  | .wirePing => Sys2Proof.Machine.execWirePing s
  | .wireReset => Sys2Proof.Machine.execWireReset s
  | .wireInit => Sys2Proof.Machine.execWireInit s
  | .wireGetst => Sys2Proof.Machine.execWireGetst s
  | .wireExit => Sys2Proof.Machine.execWireExit s
  | .wireRdfl addr len => Sys2Proof.Machine.execWireRdfl addr len s
  | .wireRdid => Sys2Proof.Machine.execWireRdid s
  | .wireWrps addr value => Sys2Proof.Machine.execWireWrps addr value s
  | .wireRdps addr => Sys2Proof.Machine.execWireRdps addr s

end Sys2Proof.Machine
end

