-- ==== Sys2Proof/Machine/HostActions.lean ====
section
/-! DEFINITION. The host's actions (30_encoding.md R114, R115; 10_state.md R31, R37, R38; 70_reset_and_hazards.md
R230), and its dispatcher (60_exceptions.md R219). -/

namespace Sys2Proof.Machine

/-- `WR OPW, w`: `OPW` holds the value written, and the operation it names runs to its end (R31, R73). -/
def requestOperation (w : Byte) (s : State) : Host.Outcome State Fault Refusal :=
  exec (decodeWord w) { s with opw := w }

/-- `XCHG` (R115): send exactly `TX`, read exactly `EXPLEN` (R243). When the two are one of the nine frames with
its response length, that frame is the instruction that runs (log 13, log 16); any other frame is exchanged
just so, and has no further meaning (R112). -/
def exchange (s : State) : Host.Outcome State Fault Refusal :=
  match decodeFrame s.tx s.explen.toNat with
  | .ok i => exec i s
  | .error _ => .next (transact s.tx s.explen.toNat s)

/-- The reset input (R230): every register at its reset value; the world outside goes on. -/
def resetBlock (s : State) : State := { State.reset with env := s.env }

/-- `if ERR = 0: …` around the host's next n actions (R115, R197 b). -/
def skipIfErr (n : Nat) (s : State) : State :=
  if s.err = 0 then s else setScript (s.env.script.drop n) s

/-! ### The dispatcher -/

/-- The closed set of what is retried: transport failure, acknowledgement mismatch, length mismatch (R219, R220). -/
def retryable (e : BitVec 4) : Bool :=
  e == ErrKind.transportError.code || e == ErrKind.acknowledgementMismatch.code
    || e == ErrKind.lengthMismatch.code

/-- The end of one attempt with error code `e` (R219): retry if `e` is in the set and an attempt is left, else
leave the loop with `e`. -/
def endAttempt (k : Fin 9) (left : Nat) (e : BitVec 4) (s : State) : State :=
  if retryable e && left != 1 then pushAction (.attempt k (left - 1)) (setHostErr e s)
  else setHostErr e s

/-- The operation word of `RS.<m>`, 0x20 + k (R93). -/
def consumerWord (k : Fin 9) : Byte := 0x20 + BitVec.ofNat 8 k.val

/-- One attempt of the loop of R219, as one step (log 17): exchange; if the transport did not fail, the
response consumer. -/
def attempt (k : Fin 9) (left : Nat) (s : State) : Host.Outcome State Fault Refusal :=
  if left = 0 then .refused .noAttempts
  else
    match exchange s with
    | .next t =>
      if t.env.hostErr = ErrKind.transportError.code then .next (endAttempt k left t.env.hostErr t)
      else
        match requestOperation (consumerWord k) t with
        | .next u => .next (endAttempt k left u.err u)
        | .fault r => .fault r
        | .refused r => .refused r
    | .fault r => .fault r
    | .refused r => .refused r

/-! ### One action -/

/-- A load that must fit its buffer (R38; log 11). -/
def loadIfFits (cap : Nat) (v : List Byte) (load : List Byte → State → State) (s : State) :
    Host.Outcome State Fault Refusal :=
  if v.length ≤ cap then .next (load v s) else .refused .loadTooLong

/-- The effect of one action of the host. -/
def hostAction (a : HostAction) (s : State) : Host.Outcome State Fault Refusal :=
  match a with
  | .wr .opw v => requestOperation (BitVec.ofNat 8 v) s
  | .wr r v => .next (writeReg r v s)
  | .rd r => .next (readReg r s)
  | .ldPl v => loadIfFits Config.plCap v loadPl s
  | .ldSec v => loadIfFits Config.secCap v loadSec s
  | .ldRx v => .next (loadRx v s)
  | .ldPay v => loadIfFits Config.payCap v loadPay s
  | .xchg => exchange s
  | .reset => .next (resetBlock s)
  | .skipIfErr n => .next (skipIfErr n s)
  | .attempt k left => attempt k left s

/-- One step of the machine: the host's next action is taken from the input and done; with no action to come
the block holds its registers (R197, R226; log 8). -/
def takeAction (s : State) : Host.Outcome State Fault Refusal :=
  match s.env.script with
  | [] => .next s
  | a :: rest => hostAction a (setScript rest s)

/-- The request of operation `w` put before the host's other actions, so that the next step runs it. -/
def requestNext (w : Byte) (s : State) : State := pushAction (.wr .opw w.toNat) s

/-! ### The pseudo-operations of R115 -/

/-- `OP <mnemonic>` = `WR OPW, w` (R114). -/
def opAction (w : Byte) : HostAction := .wr .opw w.toNat

/-- The operation word of `RQ.<m>`, 0x10 + k (R93). -/
def builderWord (k : Fin 9) : Byte := 0x10 + BitVec.ofNat 8 k.val

/-- `CALL.PING`, `CALL.RESET`, `CALL.INIT`, `CALL.GETST`, `CALL.EXIT`, `CALL.RDID`: `OP RQ.<m>; XCHG; OP RS.<m>` (R115). -/
def callBare (k : Fin 9) : List HostAction := [opAction (builderWord k), .xchg, opAction (consumerWord k)]

/-- `CALL.RDFL a, n` (R115; log 21): the exchange and the consumer only if the builder ended with `ERR` = 0. -/
def callReadFlash (a n : Nat) : List HostAction :=
  [.wr .addr a, .wr .len n, opAction (builderWord 5), .skipIfErr 2, .xchg, opAction (consumerWord 5)]

/-- `CALL.WRPS a, v` (R115). -/
def callWriteStore (a v : Nat) : List HostAction := [.wr .addr a, .wr .wval v] ++ callBare 7

/-- `CALL.RDPS a` (R115). -/
def callReadStore (a : Nat) : List HostAction := [.wr .addr a] ++ callBare 8

end Sys2Proof.Machine
end

