-- ==== Sys2Proof/Machine/Step.lean ====
section
/-! DEFINITION. One step of the machine, and where its next instruction is placed. -/

namespace Sys2Proof.Machine

/-- One step: the next action of the host (R71, R73). -/
def step (s : State) : Host.Outcome State Fault Refusal := takeAction s

/-- `s` with the instruction of `nbits` bits held in `w` as what step fetches next: the host's next action is
the write of that operation word to `OPW` (R31; log 7). An operation word is one byte (R91). -/
def State.withFetchWord (s : State) (_nbits w : Nat) : State := requestNext (BitVec.ofNat 8 w) s

end Sys2Proof.Machine
end

