-- ==== Sys2Proof/Safety.lean ====
section
/-! DEFINITION. What holds in every state a run reaches, and what counts as a clean run. -/

namespace Sys2Proof.Machine

/-- What the rule of `RQ.<m>`, m of index k, left in `PL`, `SEC` and `EXPLEN` (43_request_builders.md R161 to R169). -/
def contextOf (k : Fin 9) (pl sec : List Byte) (explen : Len9) : Prop :=
  match pl with
  | [] => sec = [] ∧ ((k ∈ [0, 1, 2, 4] ∧ explen = 1) ∨ (k = 3 ∧ explen = 12) ∨ (k = 6 ∧ explen = 10))
  | [hi, lo] => k = 8 ∧ sec = [hi, lo] ∧ explen = 3
  | [hi, lo, x] =>
    (k = 5 ∧ sec = [hi, lo] ∧ explen = 2 + x.setWidth 9 ∧ x ≤ Config.maxReadLen)
    ∨ (k = 7 ∧ sec = [x, hi, lo] ∧ explen = 2)
  | _ => False

/-- The invariant of 10_state.md R45: an open call has the context its builder made. -/
def CallIntact (s : State) : Prop :=
  s.callv = true →
    ∃ k : Fin 9, s.kidx = indexBits k ∧ s.cmd = Config.cmdCode k ∧ s.txv = true
      ∧ s.tx = s.cmd :: s.pl ∧ contextOf k s.pl s.sec s.explen

/-- A result buffer whose valid bit is 0 is empty (R143, R133, R160, R180, R41). -/
def InvalidIsEmpty (s : State) : Prop := (s.payv = false → s.pay = []) ∧ (s.txv = false → s.tx = [])

/-- `ERR` holds 0 or a code the block raises, and `ESTK` has the bit of the error in `ERR` and never bit 0
(R32, R33, R201, R211). -/
def ErrorsRecorded (s : State) : Prop :=
  (s.err = 0 ∨ (2 ≤ s.err.toNat ∧ s.err.toNat ≤ 8 ∧ s.estk.getLsbD (s.err.toNat - 1) = true))
    ∧ s.estk.getLsbD 0 = false

/-- The invariant of the machine. -/
structure MachineInv (s : State) : Prop where
  /-- every buffer is within its capacity (R8) -/
  buffers : Memory.wf s = true
  /-- an open call is intact (R45) -/
  call : CallIntact s
  /-- an invalid result buffer is empty -/
  empty : InvalidIsEmpty s
  /-- errors are recorded -/
  errors : ErrorsRecorded s

/-- "No fault was recorded": no operation since reset or the last `CLRE` raised (R33). -/
def Clean (s : State) : Prop := s.estk = 0

/-- A call run from the host's actions ends well (30_encoding.md R115, 44_response_consumers.md R190): after
`steps` steps from `s` no error was recorded, the payload is `d`, exactly one exchange was made, of the
frame `sent` for `n` bytes and with the answer `r`, and the host's actions `rest` and the transport's answers
`more` are still to come. -/
def CallDelivers (steps : Nat) (s t : State) (rest : List HostAction) (more : List (Option (List Byte)))
    (sent : List Byte) (n : Nat) (r d : List Byte) : Prop :=
  core.run steps s = .next t ∧ t.err = 0 ∧ t.estk = s.estk ∧ t.payv = true ∧ t.pay = d
    ∧ t.env = { s.env with
        script := rest, inbox := more, hostErr := 0
        events := s.env.events ++ [.exchange sent n (some r)] }

end Sys2Proof.Machine
end

