-- ==== Sys2Proof/Certificates/Slice0/Obligations.lean ====
section
/-! DEFINITION. The statements for the provers. Each states what rules of spec/ say of the machine; the next
states are written out from the rules, register by register, so that each also says what does not change. -/

open Sys2Proof Sys2Proof.Machine

/-! ### Encodings -/

/-- 30_encoding.md R92, R93: the 25 operation words, written out from the tables. -/
def Obligations.OperationWordsDecodeAsTheTableSays : Prop :=
  decodeWord 0b00000001 = .csum ∧ decodeWord 0b00000010 = .enc ∧ decodeWord 0b00000011 = .val
  ∧ decodeWord 0b00000100 = .csv ∧ decodeWord 0b00000101 = .dst ∧ decodeWord 0b00000110 = .did
  ∧ decodeWord 0b00000111 = .clre
  ∧ decodeWord 0b00010000 = .rqPing ∧ decodeWord 0b00010001 = .rqReset ∧ decodeWord 0b00010010 = .rqInit
  ∧ decodeWord 0b00010011 = .rqGetst ∧ decodeWord 0b00010100 = .rqExit ∧ decodeWord 0b00010101 = .rqRdfl
  ∧ decodeWord 0b00010110 = .rqRdid ∧ decodeWord 0b00010111 = .rqWrps ∧ decodeWord 0b00011000 = .rqRdps
  ∧ decodeWord 0b00100000 = .rsPing ∧ decodeWord 0b00100001 = .rsReset ∧ decodeWord 0b00100010 = .rsInit
  ∧ decodeWord 0b00100011 = .rsGetst ∧ decodeWord 0b00100100 = .rsExit ∧ decodeWord 0b00100101 = .rsRdfl
  ∧ decodeWord 0b00100110 = .rsRdid ∧ decodeWord 0b00100111 = .rsWrps ∧ decodeWord 0b00101000 = .rsRdps

/-- R91, R93: every operation word has one meaning: encoding what a word decodes to gives the word back, and
what it decodes to is well formed. -/
def Obligations.EncodingADecodedWordGivesTheWordBack : Prop :=
  ∀ w : Byte, encode (decodeWord w) = [w] ∧ WellFormed (decodeWord w) ∧ isOperation (decodeWord w) = true

/-- R90 to R107: decoding an encoded well-formed instruction gives it back: the operation words, and the nine
request frames with every value of their operands. The frames are told apart by the command byte, so the
nine bytes are assumed pairwise distinct, as 92_eei_decisions.md D14 allows a claim to do; the statement is
about every such table of bytes and not about the machine's own (log 1, log 16). -/
def Obligations.DecodingAnEncodedInstructionGivesItBack : Prop :=
  ∀ codes : Fin 9 → Byte, Function.Injective codes → ∀ i : Instr, WellFormed i →
    (isOperation i = true → decode (encodeWith codes i) = .ok i)
    ∧ ∀ n, responseLength i = some n → decodeFrameWith codes (encodeWith codes i) n = .ok i

/-- R95 to R107, R112: whatever the command bytes, a frame decodes only to an instruction whose own bytes and
response length are exactly the ones given. -/
def Obligations.AFrameDecodesOnlyToAnInstructionWithThoseBytes : Prop :=
  ∀ (codes : Fin 9 → Byte) (f : List Byte) (n : Nat) (i : Instr), decodeFrameWith codes f n = .ok i →
    encodeWith codes i = f ∧ responseLength i = some n ∧ isOperation i = false

/-- R94, R196: exactly the listed words are reserved, 231 of them, and requesting one raises
`IllegalOperation`, changes nothing else, and leaves `OPW` at the value written. -/
def Obligations.ReservedWordsRaiseIllegalOperationOnly : Prop :=
  (∀ w : Byte, decodeWord w = .reserved w ↔
      (w.toNat = 0 ∨ (0x08 ≤ w.toNat ∧ w.toNat ≤ 0x0F) ∨ (0x19 ≤ w.toNat ∧ w.toNat ≤ 0x1F)
        ∨ (0x29 ≤ w.toNat ∧ w.toNat ≤ 0x2F) ∨ 0x30 ≤ w.toNat))
  ∧ ((List.range 256).filter fun n => decodeWord (BitVec.ofNat 8 n) == .reserved (BitVec.ofNat 8 n)).length = 231
  ∧ ∀ (w : Byte) (s : State), decodeWord w = .reserved w →
      exec (.reserved w) s = .next { s with err := 7, estk := s.estk ||| 0x40 }
      ∧ requestOperation w s = .next { s with opw := w, err := 7, estk := s.estk ||| 0x40 }

/-! ### Steps -/

/-- R31, R73: when the host's next action is `WR OPW, v`, the step is the operation the word decodes to, run in
the state where `OPW` holds the word and the action is done; what it decodes to is well formed. -/
def Obligations.AStepRunsTheRequestedOperation : Prop :=
  ∀ (s : State) (v : Nat) (rest : List HostAction), s.env.script = .wr .opw v :: rest →
    step s = exec (decodeWord (BitVec.ofNat 8 v))
      { s with opw := BitVec.ofNat 8 v, env := { s.env with script := rest } }
    ∧ WellFormed (decodeWord (BitVec.ofNat 8 v))

/-- R71, R226 and log 7, log 8: the host's actions are done one a step, oldest first; with none to come the
block holds its registers. -/
def Obligations.AStepDoesTheNextHostAction : Prop :=
  (∀ (s : State) (a : HostAction) (rest : List HostAction), s.env.script = a :: rest →
    step s = hostAction a { s with env := { s.env with script := rest } })
  ∧ ∀ s : State, s.env.script = [] → step s = .next s

/-- R13, R32, R200: every operation word, requested in any state, ends in a next state, with `ERR` 0 or one of
the codes 2 to 8 and `OPW` at the word. -/
def Obligations.EveryRequestedOperationEnds : Prop :=
  ∀ (s : State) (v : Nat) (rest : List HostAction), s.env.script = .wr .opw v :: rest →
    ∃ t, step s = .next t ∧ t.opw = BitVec.ofNat 8 v ∧ t.env.script = rest
      ∧ (t.err = 0 ∨ (2 ≤ t.err.toNat ∧ t.err.toNat ≤ 8))

/-! ### Checksum -/

/-- R130, R131: the checksum is the sum of all bytes of both sequences, modulo 256, and its laws. -/
def Obligations.ChecksumLaws : Prop :=
  ∀ d a : List Byte,
    (checksum d a).toNat = ((d.map BitVec.toNat).sum + (a.map BitVec.toNat).sum) % 256
    ∧ checksum d a = checksum (d ++ a) []
    ∧ checksum d a = checksum a d
    ∧ (∀ d' a' : List Byte, d.Perm d' → a.Perm a' → checksum d' a' = checksum d a)
    ∧ checksum [] [] = 0
    ∧ ∀ b : Byte, checksum (d ++ [b]) a = checksum d a + b

/-- R134: `strip_verify` gives the data bytes exactly when the trailing byte is the checksum. -/
def Obligations.StripVerifyAcceptsExactlyTheChecksum : Prop :=
  ∀ s : List Byte, stripVerify [] s = .error .checksumError
    ∧ ∀ (d : List Byte) (c : Byte),
        (c = checksum d s → stripVerify (d ++ [c]) s = .ok d)
        ∧ (c ≠ checksum d s → stripVerify (d ++ [c]) s = .error .checksumError)

/-- R132: `CSUM`. -/
def Obligations.CsumWritesTheChecksumOfPayAndSec : Prop :=
  ∀ s : State,
    (s.payv = true →
      exec .csum s = .next { s with err := 0, sum := checksum s.pay s.sec, sumv := true })
    ∧ (s.payv = false →
      exec .csum s = .next { s with err := 8, estk := s.estk ||| 0x80, sumv := false })

/-- R133: `CSV`, its four outcomes. -/
def Obligations.CsvVerifiesAndStripsTheTrailingByte : Prop :=
  ∀ s : State,
    (s.payv = false →
      exec .csv s = .next
        { s with err := 8, estk := s.estk ||| 0x80, sumv := false, stv := false, idv := false })
    ∧ (s.payv = true → s.pay = [] →
      exec .csv s = .next
        { s with err := 4, estk := s.estk ||| 0x08, payv := false, sumv := false, stv := false, idv := false })
    ∧ (∀ (d : List Byte) (c : Byte), s.payv = true → s.pay = d ++ [c] → c = checksum d s.sec →
      exec .csv s = .next
        { s with err := 0, pay := d, sum := c, sumv := true, stv := false, idv := false })
    ∧ (∀ (d : List Byte) (c : Byte), s.payv = true → s.pay = d ++ [c] → c ≠ checksum d s.sec →
      exec .csv s = .next
        { s with err := 4, estk := s.estk ||| 0x08, pay := [], payv := false,
                 sum := checksum d s.sec, sumv := true, stv := false, idv := false })

/-! ### Codec -/

/-- R140, R142: `ENC`. -/
def Obligations.EncWritesCommandAndPayloadToTx : Prop :=
  ∀ s : State, exec .enc s = .next { s with err := 0, tx := s.cmd :: s.pl, txv := true }

/-- R141: `validate_response`, its tests in their order. -/
def Obligations.ValidateResponseTestsInOrder : Prop :=
  ∀ (c : Byte) (n : Nat),
    validateResponse c [] n = .error .lengthMismatch
    ∧ ∀ (a : Byte) (d : List Byte),
        (a ≠ c ^^^ 0xFF → validateResponse c (a :: d) n = .error .acknowledgementMismatch)
        ∧ (a = c ^^^ 0xFF → d.length + 1 ≠ n → validateResponse c (a :: d) n = .error .lengthMismatch)
        ∧ (a = c ^^^ 0xFF → d.length + 1 = n → validateResponse c (a :: d) n = .ok d)

/-- R144: the round trip of the codec. -/
def Obligations.CodecRoundTrip : Prop :=
  ∀ (c : Byte) (p d : List Byte),
    validateResponse c ([c ^^^ 0xFF] ++ d) (1 + d.length) = .ok d
    ∧ (encodeRequest c p).head? = some c

/-- R145: a response one byte short or one byte long is a `LengthMismatch`. -/
def Obligations.OneByteShortOrLongIsLengthMismatch : Prop :=
  ∀ (c : Byte) (d : List Byte) (n : Nat),
    (([c ^^^ 0xFF] ++ d).length + 1 = n ∨ ([c ^^^ 0xFF] ++ d).length = n + 1) →
      validateResponse c ([c ^^^ 0xFF] ++ d) n = .error .lengthMismatch

/-- R143: `VAL`, its guard, its three failures in order, and its success. -/
def Obligations.ValValidatesAndUnwrapsTheResponse : Prop :=
  ∀ s : State,
    (257 < s.explen.toNat →
      exec .val s = .next { s with err := 6, estk := s.estk ||| 0x20, pay := [], payv := false,
                                   sumv := false, stv := false, idv := false })
    ∧ (s.explen.toNat ≤ 257 → s.rx = [] →
      exec .val s = .next { s with err := 3, estk := s.estk ||| 0x04, pay := [], payv := false,
                                   sumv := false, stv := false, idv := false })
    ∧ ∀ (a : Byte) (d : List Byte), s.explen.toNat ≤ 257 → s.rx = a :: d →
        (a ≠ s.cmd ^^^ 0xFF →
          exec .val s = .next { s with err := 2, estk := s.estk ||| 0x02, pay := [], payv := false,
                                       sumv := false, stv := false, idv := false })
        ∧ (a = s.cmd ^^^ 0xFF → d.length + 1 ≠ s.explen.toNat →
          exec .val s = .next { s with err := 3, estk := s.estk ||| 0x04, pay := [], payv := false,
                                       sumv := false, stv := false, idv := false })
        ∧ (a = s.cmd ^^^ 0xFF → d.length + 1 = s.explen.toNat →
          exec .val s = .next { s with err := 0, pay := d, payv := true,
                                       sumv := false, stv := false, idv := false })

/-! ### Records -/

/-- R150, R152 with the layouts R108, R109, R110, R116: `DST`, every field written out, and its two errors. -/
def Obligations.DstUnpacksTheStatusRecord : Prop :=
  ∀ s : State,
    (∀ b0 b1 b2 f e b5 b6 b7 b8 b9 b10 : Byte, s.payv = true →
      s.pay = [b0, b1, b2, f, e, b5, b6, b7, b8, b9, b10] →
      exec .dst s = .next
        { s with
          err := 0
          stv := true
          st :=
            { signature := b0, versionMajor := b1, versionMinor := b2
              cmdReadflash := f.getLsbD 7, appAutorun := f.getLsbD 6
              useWdtReset := f.getLsbD 5, twoStepInit := f.getLsbD 4
              cmdSetpgaddr := f.getLsbD 3, appUseTplPg := f.getLsbD 2
              autoPageAddr := f.getLsbD 1, enableLedUi := f.getLsbD 0
              eepromAccess := e.getLsbD 5, cmdReaddevs := e.getLsbD 4
              checkPageIx := e.getLsbD 3, clearBit7R31 := e.getLsbD 2
              forceErasePage := e.getLsbD 1, autoClkTweak := e.getLsbD 0
              bootloaderStart := BitVec.ofNat 16 (b5.toNat + 256 * b6.toNat)
              applicationStart := BitVec.ofNat 16 (b7.toNat + 256 * b8.toNat)
              lowFuseSetting := b9, oscillatorCal := b10 } })
    ∧ (s.payv = true → s.pay.length ≠ 11 →
      exec .dst s = .next { s with err := 5, estk := s.estk ||| 0x10, stv := false })
    ∧ (s.payv = false →
      exec .dst s = .next { s with err := 8, estk := s.estk ||| 0x80, stv := false })

/-- R151, R153, R111: `DID`, every field written out, and its two errors. -/
def Obligations.DidUnpacksTheDeviceIdentificationRecord : Prop :=
  ∀ s : State,
    (∀ b0 b1 b2 b3 b4 b5 b6 b7 b8 : Byte, s.payv = true →
      s.pay = [b0, b1, b2, b3, b4, b5, b6, b7, b8] →
      exec .did s = .next
        { s with
          err := 0
          idv := true
          devId :=
            { lowFuseBits := b0, highFuseBits := b1, extendedFuseBits := b2, lockBits := b3
              signatureByte0 := b4, signatureByte1 := b5, signatureByte2 := b6
              calibration0 := b7, calibration1 := b8 } })
    ∧ (s.payv = true → s.pay.length ≠ 9 →
      exec .did s = .next { s with err := 5, estk := s.estk ||| 0x10, idv := false })
    ∧ (s.payv = false →
      exec .did s = .next { s with err := 8, estk := s.estk ||| 0x80, idv := false })

/-- R110: the two unused bits of the extended feature byte are ignored: records that differ only there decode
to the same fields. -/
def Obligations.UnusedFeatureBitsAreIgnored : Prop :=
  ∀ (pre post : List Byte) (e e' : Byte), pre.length = 4 → e &&& 0x3F = e' &&& 0x3F →
    decodeStatus (pre ++ e :: post) = decodeStatus (pre ++ e' :: post)

/-- R7, R154, R205: a record is decoded exactly when its width is right, so no input is taken for both records. -/
def Obligations.OnlyTheExactWidthDecodes : Prop :=
  ∀ b : List Byte,
    ((∃ r, decodeStatus b = .ok r) ↔ b.length = 11)
    ∧ (b.length ≠ 11 → decodeStatus b = .error .bufferSizeMismatch)
    ∧ ((∃ r, decodeDeviceId b = .ok r) ↔ b.length = 9)
    ∧ (b.length ≠ 9 → decodeDeviceId b = .error .bufferSizeMismatch)

/-! ### Request builders -/

/-- R160 with R161 to R165 and R167: the six builders without operands. -/
def Obligations.BareBuildersOpenTheirCall : Prop :=
  ∀ p ∈ [(Instr.rqPing, (0 : Fin 9), (0 : BitVec 4), (1 : Len9)), (.rqReset, 1, 1, 1), (.rqInit, 2, 2, 1),
         (.rqGetst, 3, 3, 12), (.rqExit, 4, 4, 1), (.rqRdid, 6, 6, 10)],
    ∀ s : State, exec p.1 s = .next
      { s with err := 0, cmd := Config.cmdCode p.2.1, pl := [], sec := [], explen := p.2.2.2
               tx := [Config.cmdCode p.2.1], txv := true, kidx := p.2.2.1, callv := true
               rx := [], pay := [], payv := false, sumv := false, stv := false, idv := false }

/-- R160, R166, R206: `RQ.RDFL`. With `LEN` <= `MAX_READ_LEN` it opens its call; otherwise it raises `InvalidArgument`,
and then no frame is left to send and no call is open, the old context keeping its values. The same of
every value m of the parameter (R6; log 2). -/
def Obligations.ReadFlashBuilderOpensItsCallOrRefuses : Prop :=
  (∀ s : State, s.len ≤ Config.maxReadLen →
    exec .rqRdfl s = .next
      { s with err := 0, cmd := Config.cmdCode 5
               pl := [s.addr.extractLsb' 8 8, s.addr.extractLsb' 0 8, s.len]
               sec := [s.addr.extractLsb' 8 8, s.addr.extractLsb' 0 8]
               explen := BitVec.ofNat 9 (2 + s.len.toNat)
               tx := [Config.cmdCode 5, s.addr.extractLsb' 8 8, s.addr.extractLsb' 0 8, s.len]
               txv := true, kidx := 5, callv := true
               rx := [], pay := [], payv := false, sumv := false, stv := false, idv := false })
  ∧ (∀ s : State, exec .rqRdfl s = .next (buildReadFlashWith Config.maxReadLen s))
  ∧ ∀ (m : Byte) (s : State),
      ((buildReadFlashWith m s).err = 6 ↔ m < s.len)
      ∧ (m < s.len → buildReadFlashWith m s =
          { s with err := 6, estk := s.estk ||| 0x20, tx := [], txv := false, callv := false
                   rx := [], pay := [], payv := false, sumv := false, stv := false, idv := false })
      ∧ (s.len ≤ m → buildReadFlashWith m s =
          { s with err := 0, cmd := Config.cmdCode 5
                   pl := [s.addr.extractLsb' 8 8, s.addr.extractLsb' 0 8, s.len]
                   sec := [s.addr.extractLsb' 8 8, s.addr.extractLsb' 0 8]
                   explen := BitVec.ofNat 9 (2 + s.len.toNat)
                   tx := [Config.cmdCode 5, s.addr.extractLsb' 8 8, s.addr.extractLsb' 0 8, s.len]
                   txv := true, kidx := 5, callv := true
                   rx := [], pay := [], payv := false, sumv := false, stv := false, idv := false })

/-- R160, R168, R169: the two persistent-store builders. -/
def Obligations.StoreBuildersOpenTheirCall : Prop :=
  ∀ s : State,
    exec .rqWrps s = .next
      { s with err := 0, cmd := Config.cmdCode 7
               pl := [s.addr.extractLsb' 8 8, s.addr.extractLsb' 0 8, s.wval]
               sec := [s.wval, s.addr.extractLsb' 8 8, s.addr.extractLsb' 0 8]
               explen := 2
               tx := [Config.cmdCode 7, s.addr.extractLsb' 8 8, s.addr.extractLsb' 0 8, s.wval]
               txv := true, kidx := 7, callv := true
               rx := [], pay := [], payv := false, sumv := false, stv := false, idv := false }
    ∧ exec .rqRdps s = .next
      { s with err := 0, cmd := Config.cmdCode 8
               pl := [s.addr.extractLsb' 8 8, s.addr.extractLsb' 0 8]
               sec := [s.addr.extractLsb' 8 8, s.addr.extractLsb' 0 8]
               explen := 3
               tx := [Config.cmdCode 8, s.addr.extractLsb' 8 8, s.addr.extractLsb' 0 8]
               txv := true, kidx := 8, callv := true
               rx := [], pay := [], payv := false, sumv := false, stv := false, idv := false }

/-- R170: a builder is a function of `ADDR`, `LEN`, `WVAL` and the parameters. -/
def Obligations.BuildersDependOnlyOnTheirOperands : Prop :=
  ∀ i ∈ [Instr.rqPing, .rqReset, .rqInit, .rqGetst, .rqExit, .rqRdfl, .rqRdid, .rqWrps, .rqRdps],
    ∀ s s' : State, s.addr = s'.addr → s.len = s'.len → s.wval = s'.wval →
      ∃ t t', exec i s = .next t ∧ exec i s' = .next t'
        ∧ t.err = t'.err ∧ t.tx = t'.tx ∧ vld t = vld t'
        ∧ (t.err = 0 → t.cmd = t'.cmd ∧ t.pl = t'.pl ∧ t.sec = t'.sec ∧ t.explen = t'.explen
            ∧ t.kidx = t'.kidx)

/-- R98 to R107: the frame a builder leaves in `TX` is the frame of its command on the wire, and `EXPLEN` is
the length of its response. -/
def Obligations.BuiltFramesAreTheWireFrames : Prop :=
  ∀ s : State,
    ∀ p ∈ [(Instr.rqPing, Instr.wirePing), (.rqReset, .wireReset), (.rqInit, .wireInit),
           (.rqGetst, .wireGetst), (.rqExit, .wireExit), (.rqRdfl, .wireRdfl s.addr s.len),
           (.rqRdid, .wireRdid), (.rqWrps, .wireWrps s.addr s.wval), (.rqRdps, .wireRdps s.addr)],
      ∃ t, exec p.1 s = .next t
        ∧ (t.err = 0 → t.tx = encode p.2 ∧ responseLength p.2 = some t.explen.toNat)

/-! ### Response consumers -/

/-- R180 with R181, R182, R183, R185: the four consumers without a tail, on a response that validates. -/
def Obligations.BareConsumersAcceptTheAcknowledgement : Prop :=
  ∀ p ∈ [(Instr.rsPing, (0 : BitVec 4)), (.rsReset, 1), (.rsInit, 2), (.rsExit, 4)],
    ∀ (s : State) (d : List Byte), s.callv = true → s.kidx = p.2 →
      s.rx = (s.cmd ^^^ 0xFF) :: d → s.explen.toNat = d.length + 1 →
      exec p.1 s = .next
        { s with err := 0, pay := d, payv := true, sumv := false, stv := false, idv := false }

/-- R180, R184: `RS.GETST` delivers the record. -/
def Obligations.StatusConsumerDeliversTheRecord : Prop :=
  ∀ (s : State) (d : List Byte) (r : StatusRec), s.callv = true → s.kidx = 3 →
    s.rx = (s.cmd ^^^ 0xFF) :: d → s.explen.toNat = d.length + 1 → decodeStatus d = .ok r →
    exec .rsGetst s = .next
      { s with err := 0, pay := d, payv := true, st := r, stv := true, sumv := false, idv := false }

/-- R180, R187: `RS.RDID` delivers the record. -/
def Obligations.DeviceIdConsumerDeliversTheRecord : Prop :=
  ∀ (s : State) (d : List Byte) (r : DevIdRec), s.callv = true → s.kidx = 6 →
    s.rx = (s.cmd ^^^ 0xFF) :: d → s.explen.toNat = d.length + 1 → decodeDeviceId d = .ok r →
    exec .rsRdid s = .next
      { s with err := 0, pay := d, payv := true, devId := r, idv := true, sumv := false, stv := false }

/-- R180 with R186, R188, R189: the three consumers with a checksum deliver the data of a response whose last
byte is the checksum. -/
def Obligations.ChecksumConsumersDeliverTheData : Prop :=
  ∀ p ∈ [(Instr.rsRdfl, (5 : BitVec 4)), (.rsWrps, 7), (.rsRdps, 8)],
    ∀ (s : State) (d : List Byte), s.callv = true → s.kidx = p.2 →
      s.rx = (s.cmd ^^^ 0xFF) :: (d ++ [checksum d s.sec]) → s.explen.toNat = d.length + 2 →
      exec p.1 s = .next
        { s with err := 0, pay := d, payv := true, sum := checksum d s.sec, sumv := true
                 stv := false, idv := false }

/-- R180, R204: a wrong checksum byte raises `ChecksumError`; no data is delivered, and `SUM` holds the expected
checksum. -/
def Obligations.ChecksumConsumersRejectAWrongChecksum : Prop :=
  ∀ p ∈ [(Instr.rsRdfl, (5 : BitVec 4)), (.rsWrps, 7), (.rsRdps, 8)],
    ∀ (s : State) (d : List Byte) (c : Byte), s.callv = true → s.kidx = p.2 →
      s.rx = (s.cmd ^^^ 0xFF) :: (d ++ [c]) → s.explen.toNat = d.length + 2 → c ≠ checksum d s.sec →
      exec p.1 s = .next
        { s with err := 4, estk := s.estk ||| 0x08, pay := [], payv := false
                 sum := checksum d s.sec, sumv := true, stv := false, idv := false }

/-- R180, R208: with no matching open call every consumer raises `SequenceError` and changes nothing else. That `IDV`
and `PAYV` keep their values there, against the "after any raise" of R187 and R189, is the model's reading (log
25). -/
def Obligations.ConsumersNeedTheirOpenCall : Prop :=
  ∀ p ∈ [(Instr.rsPing, (0 : BitVec 4)), (.rsReset, 1), (.rsInit, 2), (.rsGetst, 3), (.rsExit, 4),
         (.rsRdfl, 5), (.rsRdid, 6), (.rsWrps, 7), (.rsRdps, 8)],
    ∀ s : State, (s.callv = false ∨ s.kidx ≠ p.2) →
      exec p.1 s = .next { s with err := 8, estk := s.estk ||| 0x80 }

/-- R180, R202, R203, R210: with its call open, every consumer refuses a response that does not validate, and
decodes nothing of it. -/
def Obligations.ConsumersRejectBadResponses : Prop :=
  ∀ p ∈ [(Instr.rsPing, (0 : BitVec 4)), (.rsReset, 1), (.rsInit, 2), (.rsGetst, 3), (.rsExit, 4),
         (.rsRdfl, 5), (.rsRdid, 6), (.rsWrps, 7), (.rsRdps, 8)],
    ∀ s : State, s.callv = true → s.kidx = p.2 →
      (s.rx = [] →
        exec p.1 s = .next { s with err := 3, estk := s.estk ||| 0x04, pay := [], payv := false
                                    sumv := false, stv := false, idv := false })
      ∧ ∀ (a : Byte) (d : List Byte), s.rx = a :: d →
          (a ≠ s.cmd ^^^ 0xFF →
            exec p.1 s = .next { s with err := 2, estk := s.estk ||| 0x02, pay := [], payv := false
                                        sumv := false, stv := false, idv := false })
          ∧ (a = s.cmd ^^^ 0xFF → d.length + 1 ≠ s.explen.toNat →
            exec p.1 s = .next { s with err := 3, estk := s.estk ||| 0x04, pay := [], payv := false
                                        sumv := false, stv := false, idv := false })

/-- R180, 92_eei_decisions.md D32: a consumer issued again on the same `RX` gives the same result. -/
def Obligations.ConsumersAreIdempotent : Prop :=
  ∀ i ∈ [Instr.rsPing, .rsReset, .rsInit, .rsGetst, .rsExit, .rsRdfl, .rsRdid, .rsWrps, .rsRdps],
    ∀ s t : State, exec i s = .next t → exec i t = .next t

/-- R190: the round trip of a call, for each command: builder, a good response, consumer. The last component
says whether the command has a checksum. -/
def Obligations.CallRoundTrip : Prop :=
  ∀ p ∈ [(Instr.rqPing, Instr.rsPing, (0 : Fin 9), false), (.rqReset, .rsReset, 1, false),
         (.rqInit, .rsInit, 2, false), (.rqGetst, .rsGetst, 3, false), (.rqExit, .rsExit, 4, false),
         (.rqRdfl, .rsRdfl, 5, true), (.rqRdid, .rsRdid, 6, false), (.rqWrps, .rsWrps, 7, true),
         (.rqRdps, .rsRdps, 8, true)],
    ∀ (s t : State) (d c : List Byte), exec p.1 s = .next t → t.err = 0 →
      c = (if p.2.2.2 then [checksum d t.sec] else []) → 1 + d.length + c.length = t.explen.toNat →
      ∃ u, exec p.2.1 (loadRx ([Config.cmdCode p.2.2.1 ^^^ 0xFF] ++ d ++ c) t) = .next u
        ∧ u.err = 0 ∧ u.payv = true ∧ u.pay = d
        ∧ (p.2.1 = .rsGetst → u.stv = true ∧ decodeStatus d = .ok u.st)
        ∧ (p.2.1 = .rsRdid → u.idv = true ∧ decodeDeviceId d = .ok u.devId)

/-! ### Errors -/

/-- R195: `CLRE`. -/
def Obligations.ClreClearsTheStickyRecord : Prop :=
  ∀ s : State, exec .clre s = .next { s with err := 0, estk := 0x00 }

/-- R32, R33, R201, R211, R212: an operation other than `CLRE` either ends with `ERR` = 0 and `ESTK` unchanged, or raises
one kind with code c: `ERR` is c and `ESTK` gains bit c-1 alone. The kind is never `TransportError`. -/
def Obligations.OneErrorKindIsRecordedPerOperation : Prop :=
  ∀ (i : Instr) (s t : State), isOperation i = true → i ≠ .clre → exec i s = .next t →
    (t.err = 0 ∧ t.estk = s.estk)
    ∨ (2 ≤ t.err.toNat ∧ t.err.toNat ≤ 8 ∧ t.estk = s.estk ||| (1#8 <<< (t.err.toNat - 1)))

/-! ### Frames of the whole machine -/

/-- R20, R42, R43: no operation changes the host's operands `ADDR`, `LEN`, `WVAL`, nor `OPW` once written, nor
anything outside the block. -/
def Obligations.OperationsLeaveTheHostsOperandsAlone : Prop :=
  ∀ (i : Instr) (s t : State), isOperation i = true → exec i s = .next t →
    t.addr = s.addr ∧ t.len = s.len ∧ t.wval = s.wval ∧ t.opw = s.opw ∧ t.env = s.env

/-- R180, R209: an operation other than a request builder changes neither `RX` nor the call context; only
`ENC` and the builders write `TX`. -/
def Obligations.OnlyBuildersChangeTheCallContext : Prop :=
  ∀ (i : Instr) (s t : State), isOperation i = true →
    i ∉ [Instr.rqPing, .rqReset, .rqInit, .rqGetst, .rqExit, .rqRdfl, .rqRdid, .rqWrps, .rqRdps] →
    exec i s = .next t →
      t.rx = s.rx ∧ t.cmd = s.cmd ∧ t.explen = s.explen ∧ t.pl = s.pl ∧ t.sec = s.sec
      ∧ t.kidx = s.kidx ∧ t.callv = s.callv ∧ (i ≠ .enc → t.tx = s.tx ∧ t.txv = s.txv)

/-- R43: states that agree on the registers behave the same: what the model holds of the outside world
reaches no register through an operation. -/
def Obligations.OperationsIgnoreTheOutsideWorld : Prop :=
  ∀ (i : Instr) (s t : State) (e : Env), isOperation i = true → exec i s = .next t →
    exec i { s with env := e } = .next { t with env := e }

/-- R40, R42: a result register whose valid bit is 0 is read by no operation: whatever it holds, the next state
is the same but for that register, and the same there too if its valid bit is then 1. So the values the
model gives these registers at reset (log 4) never show. -/
def Obligations.InvalidResultsReachNoOtherRegister : Prop :=
  ∀ (i : Instr) (s t : State), isOperation i = true → exec i s = .next t →
    (s.sumv = false → ∀ x, ∃ x', exec i { s with sum := x } = .next { t with sum := x' }
        ∧ (t.sumv = true → x' = t.sum))
    ∧ (s.stv = false → ∀ x, ∃ x', exec i { s with st := x } = .next { t with st := x' }
        ∧ (t.stv = true → x' = t.st))
    ∧ (s.idv = false → ∀ x, ∃ x', exec i { s with devId := x } = .next { t with devId := x' }
        ∧ (t.idv = true → x' = t.devId))

/-! ### Host access -/

/-- R37, R44: the writable operands; `CMD` and `EXPLEN` belong to the call context, so a write of one closes
the call. That every write is truncated to the register's width is log 10 for all but `EXPLEN`. -/
def Obligations.HostWritesOperands : Prop :=
  ∀ (s : State) (v : Nat),
    hostAction (.wr .cmd v) s = .next { s with cmd := BitVec.ofNat 8 v, callv := false }
    ∧ hostAction (.wr .explen v) s = .next { s with explen := BitVec.ofNat 9 v, callv := false }
    ∧ hostAction (.wr .addr v) s = .next { s with addr := BitVec.ofNat 16 v }
    ∧ hostAction (.wr .len v) s = .next { s with len := BitVec.ofNat 8 v }
    ∧ hostAction (.wr .wval v) s = .next { s with wval := BitVec.ofNat 8 v }

/-- R37 and log 9: a write to any other register but `OPW` has no effect. -/
def Obligations.WritesToReadOnlyRegistersHaveNoEffect : Prop :=
  ∀ (r : Reg) (s : State) (v : Nat), r ∉ [Reg.cmd, .explen, .addr, .len, .wval, .opw] →
    hostAction (.wr r v) s = .next s

/-- R38, R44, R24: the sequence loads; a load that does not fit is no host action and is refused (log 11),
but for `LD.RX`, which keeps the first 258 bytes. -/
def Obligations.SequenceLoads : Prop :=
  ∀ (s : State) (v : List Byte),
    (v.length ≤ 3 → hostAction (.ldPl v) s = .next { s with pl := v, callv := false })
    ∧ (v.length ≤ 3 → hostAction (.ldSec v) s = .next { s with sec := v, callv := false })
    ∧ hostAction (.ldRx v) s = .next { s with rx := v.take 258 }
    ∧ (v.length ≤ 257 → hostAction (.ldPay v) s = .next
        { s with pay := v, payv := true, sumv := false, stv := false, idv := false })
    ∧ (3 < v.length → hostAction (.ldPl v) s = .refused .loadTooLong
        ∧ hostAction (.ldSec v) s = .refused .loadTooLong)
    ∧ (257 < v.length → hostAction (.ldPay v) s = .refused .loadTooLong)

/-- R68, R37: a read changes no register of the block; the host receives the register's value where it holds
one, and otherwise a value of the register's width of which nothing is said (R40; log 5). -/
def Obligations.ReadsChangeNoRegister : Prop :=
  ∀ (r : Reg) (s : State), ∃ (t : State) (v : BitVec 16), hostAction (.rd r) s = .next t
    ∧ t = { s with env := t.env } ∧ t.env.events = s.env.events ++ [.read r v]
    ∧ t.env.script = s.env.script ∧ (∀ w, regValue r s = some w → v = w)
    ∧ (regValue r s = none → v = freeValue r s.env.draws ∧ v.toNat < 2 ^ r.width)

/-- R28, R29, R37, R40, R61: what a read delivers, register by register, zero-extended to 16 bits (log 15), and which
reads have a specified value: a result register by its valid bit, a buffer byte by its index below the
length. -/
def Obligations.OnlyValidResultsHaveASpecifiedValue : Prop :=
  ∀ s : State,
    (regValue .sum s = if s.sumv then some (s.sum.setWidth 16) else none)
    ∧ (∀ f, (regValue (.st f) s).isSome = s.stv)
    ∧ (∀ f, (regValue (.id f) s).isSome = s.idv)
    ∧ (∀ i, regValue (.tx i) s = if s.txv then s.tx[i.val]?.map (BitVec.setWidth 16) else none)
    ∧ (∀ i, regValue (.pay i) s = if s.payv then s.pay[i.val]?.map (BitVec.setWidth 16) else none)
    ∧ (∀ i, regValue (.rx i) s = s.rx[i.val]?.map (BitVec.setWidth 16))
    ∧ (∀ i, regValue (.pl i) s = s.pl[i.val]?.map (BitVec.setWidth 16))
    ∧ (∀ i, regValue (.sec i) s = s.sec[i.val]?.map (BitVec.setWidth 16))
    ∧ regValue .cmd s = some (s.cmd.setWidth 16)
    ∧ regValue .explen s = some (s.explen.setWidth 16)
    ∧ regValue .len s = some (s.len.setWidth 16)
    ∧ regValue .wval s = some (s.wval.setWidth 16)
    ∧ regValue .opw s = some (s.opw.setWidth 16)
    ∧ regValue .kidx s = some (s.kidx.setWidth 16)
    ∧ regValue .err s = some (s.err.setWidth 16)
    ∧ regValue .estk s = some (s.estk.setWidth 16)
    ∧ regValue .addr s = some s.addr
    ∧ regValue .txlen s = some (BitVec.ofNat 16 s.tx.length)
    ∧ regValue .paylen s = some (BitVec.ofNat 16 s.pay.length)
    ∧ regValue .rxlen s = some (BitVec.ofNat 16 s.rx.length)
    ∧ regValue .pllen s = some (BitVec.ofNat 16 s.pl.length)
    ∧ regValue .seclen s = some (BitVec.ofNat 16 s.sec.length)
    ∧ (s.stv = true →
        regValue (.st .signature) s = some (s.st.signature.setWidth 16)
        ∧ regValue (.st .versionMajor) s = some (s.st.versionMajor.setWidth 16)
        ∧ regValue (.st .versionMinor) s = some (s.st.versionMinor.setWidth 16)
        ∧ regValue (.st .cmdReadflash) s = some (if s.st.cmdReadflash then 1 else 0)
        ∧ regValue (.st .appAutorun) s = some (if s.st.appAutorun then 1 else 0)
        ∧ regValue (.st .useWdtReset) s = some (if s.st.useWdtReset then 1 else 0)
        ∧ regValue (.st .twoStepInit) s = some (if s.st.twoStepInit then 1 else 0)
        ∧ regValue (.st .cmdSetpgaddr) s = some (if s.st.cmdSetpgaddr then 1 else 0)
        ∧ regValue (.st .appUseTplPg) s = some (if s.st.appUseTplPg then 1 else 0)
        ∧ regValue (.st .autoPageAddr) s = some (if s.st.autoPageAddr then 1 else 0)
        ∧ regValue (.st .enableLedUi) s = some (if s.st.enableLedUi then 1 else 0)
        ∧ regValue (.st .eepromAccess) s = some (if s.st.eepromAccess then 1 else 0)
        ∧ regValue (.st .cmdReaddevs) s = some (if s.st.cmdReaddevs then 1 else 0)
        ∧ regValue (.st .checkPageIx) s = some (if s.st.checkPageIx then 1 else 0)
        ∧ regValue (.st .clearBit7R31) s = some (if s.st.clearBit7R31 then 1 else 0)
        ∧ regValue (.st .forceErasePage) s = some (if s.st.forceErasePage then 1 else 0)
        ∧ regValue (.st .autoClkTweak) s = some (if s.st.autoClkTweak then 1 else 0)
        ∧ regValue (.st .bootloaderStart) s = some s.st.bootloaderStart
        ∧ regValue (.st .applicationStart) s = some s.st.applicationStart
        ∧ regValue (.st .lowFuseSetting) s = some (s.st.lowFuseSetting.setWidth 16)
        ∧ regValue (.st .oscillatorCal) s = some (s.st.oscillatorCal.setWidth 16))
    ∧ (s.idv = true →
        regValue (.id .lowFuseBits) s = some (s.devId.lowFuseBits.setWidth 16)
        ∧ regValue (.id .highFuseBits) s = some (s.devId.highFuseBits.setWidth 16)
        ∧ regValue (.id .extendedFuseBits) s = some (s.devId.extendedFuseBits.setWidth 16)
        ∧ regValue (.id .lockBits) s = some (s.devId.lockBits.setWidth 16)
        ∧ regValue (.id .signatureByte0) s = some (s.devId.signatureByte0.setWidth 16)
        ∧ regValue (.id .signatureByte1) s = some (s.devId.signatureByte1.setWidth 16)
        ∧ regValue (.id .signatureByte2) s = some (s.devId.signatureByte2.setWidth 16)
        ∧ regValue (.id .calibration0) s = some (s.devId.calibration0.setWidth 16)
        ∧ regValue (.id .calibration1) s = some (s.devId.calibration1.setWidth 16))

/-- R34: the bits of `VLD`. -/
def Obligations.VldShowsTheValidBits : Prop :=
  ∀ s : State,
    (vld s).getLsbD 0 = s.txv ∧ (vld s).getLsbD 1 = s.payv ∧ (vld s).getLsbD 2 = s.sumv
    ∧ (vld s).getLsbD 3 = s.stv ∧ (vld s).getLsbD 4 = s.idv ∧ (vld s).getLsbD 5 = s.callv
    ∧ (vld s).getLsbD 6 = false ∧ (vld s).getLsbD 7 = false
    ∧ regValue .vld s = some ((vld s).setWidth 16)

/-- R76, R61: a write inside a buffer's content is read back, every other byte of it and every other register
stays, and a write past the capacity is not defined. -/
def Obligations.BufferReadAfterWrite : Prop :=
  ∀ (b : Space) (i : Nat) (v : List Byte) (s : State),
    (i + v.length ≤ (buffer b s).length → i + v.length ≤ b.cap →
      ∃ t, memWrite b i v s = some t ∧ memRead b i v.length t = some v
        ∧ (∀ j, (j < i ∨ i + v.length ≤ j) → memRead b j 1 t = memRead b j 1 s)
        ∧ t = setBuffer b (buffer b t) s ∧ (buffer b t).length = (buffer b s).length)
    ∧ (b.cap < i + v.length → memWrite b i v s = none)

/-! ### Reset and invariants -/

/-- R41: the reset values the spec gives. -/
def Obligations.ResetValues : Prop :=
  let s := State.reset
  s.cmd = 0 ∧ s.addr = 0 ∧ s.len = 0 ∧ s.wval = 0 ∧ s.explen = 0
  ∧ s.pl.length = 0 ∧ s.sec.length = 0 ∧ s.rx.length = 0 ∧ s.tx.length = 0 ∧ s.pay.length = 0
  ∧ s.txv = false ∧ s.payv = false ∧ s.sumv = false ∧ s.stv = false ∧ s.idv = false ∧ s.callv = false
  ∧ s.kidx = 0 ∧ s.opw = 0x00 ∧ s.err = 0 ∧ s.estk = 0x00 ∧ vld s = 0x00

/-- R230: the reset input puts every register at its reset value, from any state; what is outside the block
goes on. -/
def Obligations.ResetFromAnyState : Prop :=
  ∀ s : State, hostAction .reset s = .next { State.reset with env := s.env }

/-- R233, R208: an operation that reads a payload or consumes a response, issued right after reset, raises
`SequenceError`; `VAL` raises `LengthMismatch` (R143). -/
def Obligations.FirstOperationsAfterReset : Prop :=
  (∀ i ∈ [Instr.csum, .csv, .dst, .did, .rsPing, .rsReset, .rsInit, .rsGetst, .rsExit, .rsRdfl, .rsRdid,
          .rsWrps, .rsRdps],
      exec i State.reset = .next { State.reset with err := 8, estk := 0x80 })
  ∧ exec .val State.reset = .next { State.reset with err := 3, estk := 0x04 }

/-- R41, R45: the invariant holds at reset. -/
def Obligations.ResetMeetsTheInvariant : Prop := MachineInv State.reset

/-- R45, R8, R32, R33: every step keeps the invariant: an open call has the context its builder made, buffers
are within their capacities, invalid result buffers are empty, and errors are recorded. -/
def Obligations.EveryStepKeepsTheInvariant : Prop :=
  ∀ s t : State, MachineInv s → step s = .next t → MachineInv t

/-- R206, R180, R184, R187: in a state a run reaches, a consumer never raises `BufferSizeMismatch` or
`InvalidArgument`: the expected length its builder left fits the record. -/
def Obligations.ConsumersNeverSeeAWrongRecordSize : Prop :=
  ∀ i ∈ [Instr.rsPing, .rsReset, .rsInit, .rsGetst, .rsExit, .rsRdfl, .rsRdid, .rsWrps, .rsRdps],
    ∀ s t : State, MachineInv s → exec i s = .next t → t.err ≠ 5 ∧ t.err ≠ 6

/-! ### Exchanges -/

/-- R75, R115, R243 and log 13, log 14, log 15: `XCHG` sends exactly `TX`, asks for exactly `EXPLEN` bytes,
loads the first 258 bytes of the answer into `RX`, leaves `RX` alone on a failure, which the host records, and changes
nothing else of the block. -/
def Obligations.ExchangeSendsTxAndLoadsTheAnswer : Prop :=
  ∀ s : State, ∃ (a : Option (List Byte)) (t : State), hostAction .xchg s = .next t
    ∧ t = { s with rx := (match a with | some r => r.take 258 | none => s.rx), env := t.env }
    ∧ t.env.events = s.env.events ++ [.exchange s.tx s.explen.toNat a]
    ∧ t.env.hostErr = (if a = none then 1 else 0) ∧ t.env.script = s.env.script
    ∧ ∀ b rest, s.env.inbox = b :: rest → a = b ∧ t.env.inbox = rest

/-- R95, R98 to R107 and log 13: the nine request frames: the bytes that go to the peer and the length of the
response asked for, with every value of the operands; the answer is loaded as `XCHG` does. -/
def Obligations.WireFramesGoOutByteForByte : Prop :=
  ∀ (addr : Addr) (n v : Byte),
    ∀ p ∈ [(Instr.wirePing, [Config.cmdCode 0], 1), (.wireReset, [Config.cmdCode 1], 1),
           (.wireInit, [Config.cmdCode 2], 1), (.wireGetst, [Config.cmdCode 3], 12),
           (.wireExit, [Config.cmdCode 4], 1),
           (.wireRdfl addr n, [Config.cmdCode 5, addr.extractLsb' 8 8, addr.extractLsb' 0 8, n], 2 + n.toNat),
           (.wireRdid, [Config.cmdCode 6], 10),
           (.wireWrps addr v, [Config.cmdCode 7, addr.extractLsb' 8 8, addr.extractLsb' 0 8, v], 2),
           (.wireRdps addr, [Config.cmdCode 8, addr.extractLsb' 8 8, addr.extractLsb' 0 8], 3)],
      ∀ s : State, ∃ (a : Option (List Byte)) (t : State), exec p.1 s = .next t
        ∧ t = { s with rx := (match a with | some r => r.take 258 | none => s.rx), env := t.env }
        ∧ t.env.events = s.env.events ++ [.exchange p.2.1 p.2.2 a]
        ∧ t.env.hostErr = (if a = none then 1 else 0) ∧ t.env.script = s.env.script
        ∧ ∀ b rest, s.env.inbox = b :: rest → a = b ∧ t.env.inbox = rest

/-! ### The dispatcher -/

/-- R219, R220, R221 and log 17: after one attempt the host either leaves the loop or has one attempt less to
go, and the latter only after a transport failure, an acknowledgement mismatch or a length mismatch. An
attempt is the exchange and then `RS.<k>`: when the transport answers, the registers are those the consumer
leaves, run with `OPW` = 0x20 + k on the state with the answer in `RX`; when it fails, no register changes. -/
def Obligations.OnlyTheClosedSetIsRetried : Prop :=
  (∀ (k : Fin 9) (n : Nat) (s t : State), hostAction (.attempt k n) s = .next t →
    t.env.script =
      (if (t.env.hostErr = 1 ∨ t.env.hostErr = 2 ∨ t.env.hostErr = 3) ∧ 1 < n
        then .attempt k (n - 1) :: s.env.script else s.env.script)
    ∧ (t.env.hostErr ≠ 1 → t.env.hostErr = t.err))
  ∧ (∀ p ∈ [((0 : Fin 9), (0x20 : Byte), Instr.rsPing), (1, 0x21, .rsReset), (2, 0x22, .rsInit),
            (3, 0x23, .rsGetst), (4, 0x24, .rsExit), (5, 0x25, .rsRdfl), (6, 0x26, .rsRdid),
            (7, 0x27, .rsWrps), (8, 0x28, .rsRdps)],
      ∀ (n : Nat) (s : State) (r : List Byte) (more : List (Option (List Byte))),
        0 < n → s.env.inbox = some r :: more →
        ∃ u, exec p.2.2 { s with
              rx := r.take 258, opw := p.2.1
              env := { s.env with
                inbox := more, hostErr := 0
                events := s.env.events ++ [.exchange s.tx s.explen.toNat (some r)] } } = .next u
          ∧ hostAction (.attempt p.1 n) s = .next
              { u with env := { u.env with
                  hostErr := u.err
                  script := (if (u.err = 2 ∨ u.err = 3) ∧ 1 < n
                    then .attempt p.1 (n - 1) :: s.env.script else s.env.script) } })
  ∧ (∀ (k : Fin 9) (n : Nat) (s : State) (more : List (Option (List Byte))),
      0 < n → s.env.inbox = none :: more →
      hostAction (.attempt k n) s = .next
        { s with env := { s.env with
            inbox := more, hostErr := 1
            events := s.env.events ++ [.exchange s.tx s.explen.toNat none]
            script := (if 1 < n then .attempt k (n - 1) :: s.env.script else s.env.script) } })
  ∧ ∀ (k : Fin 9) (s : State), hostAction (.attempt k 0) s = .refused .noAttempts

/-- R219 and log 17: with a transport that always fails, n attempts make exactly n transactions of the same
frame, then the final error is left to the caller; no register of the block changes. -/
def Obligations.AFailingTransportIsTriedEveryTime : Prop :=
  ∀ (k : Fin 9) (n : Nat) (s : State) (rest : List HostAction) (more : List (Option (List Byte))),
    0 < n → s.env.script = .attempt k n :: rest → s.env.inbox = List.replicate n none ++ more →
    core.run n s = .next
      { s with env := { s.env with
          script := rest, inbox := more, hostErr := 1
          events := s.env.events ++ List.replicate n (.exchange s.tx s.explen.toNat none) } }

/-! ### Whole calls -/

/-- R115, R190, R243 and log 7, log 14, log 15: each of the nine `CALL.*`, run from the host's actions with a peer that
answers as its descriptor says: one exchange of the command's frame, no error, and exactly the peer's data
delivered (`CallDelivers`, Safety.lean). The last two clauses are the condition of `CALL.RDFL` (log 21): with
`ERR` not 0 the next n actions are passed over, so that nothing is sent and nothing consumed; with `ERR` = 0
none is. -/
def Obligations.AWholeCallDeliversThePeersData : Prop :=
  (∀ k ∈ [(0 : Fin 9), 1, 2, 4],
    ∀ (s : State) (rest : List HostAction) (more : List (Option (List Byte))),
      s.env.script = callBare k ++ rest → s.env.inbox = some [Config.cmdCode k ^^^ 0xFF] :: more →
      ∃ t, CallDelivers 3 s t rest more [Config.cmdCode k] 1 [Config.cmdCode k ^^^ 0xFF] [])
  ∧ (∀ (s : State) (d : List Byte) (rest : List HostAction) (more : List (Option (List Byte))),
      d.length = 11 → s.env.script = callBare 3 ++ rest →
      s.env.inbox = some ((Config.cmdCode 3 ^^^ 0xFF) :: d) :: more →
      ∃ t, CallDelivers 3 s t rest more [Config.cmdCode 3] 12 ((Config.cmdCode 3 ^^^ 0xFF) :: d) d
        ∧ t.stv = true ∧ decodeStatus d = .ok t.st)
  ∧ (∀ (s : State) (d : List Byte) (rest : List HostAction) (more : List (Option (List Byte))),
      d.length = 9 → s.env.script = callBare 6 ++ rest →
      s.env.inbox = some ((Config.cmdCode 6 ^^^ 0xFF) :: d) :: more →
      ∃ t, CallDelivers 3 s t rest more [Config.cmdCode 6] 10 ((Config.cmdCode 6 ^^^ 0xFF) :: d) d
        ∧ t.idv = true ∧ decodeDeviceId d = .ok t.devId)
  ∧ (∀ (a : Addr) (n : Byte) (d r : List Byte) (s : State) (rest : List HostAction)
      (more : List (Option (List Byte))),
      n ≤ Config.maxReadLen → d.length = n.toNat →
      r = (Config.cmdCode 5 ^^^ 0xFF) :: (d ++ [checksum d [a.extractLsb' 8 8, a.extractLsb' 0 8]]) →
      s.env.script = callReadFlash a.toNat n.toNat ++ rest → s.env.inbox = some r :: more →
      ∃ t, CallDelivers 6 s t rest more
        [Config.cmdCode 5, a.extractLsb' 8 8, a.extractLsb' 0 8, n] (2 + n.toNat) r d)
  ∧ (∀ (a : Addr) (v : Byte) (r : List Byte) (s : State) (rest : List HostAction)
      (more : List (Option (List Byte))),
      r = [Config.cmdCode 7 ^^^ 0xFF, checksum [] [v, a.extractLsb' 8 8, a.extractLsb' 0 8]] →
      s.env.script = callWriteStore a.toNat v.toNat ++ rest → s.env.inbox = some r :: more →
      ∃ t, CallDelivers 5 s t rest more
        [Config.cmdCode 7, a.extractLsb' 8 8, a.extractLsb' 0 8, v] 2 r [])
  ∧ (∀ (a : Addr) (d : Byte) (r : List Byte) (s : State) (rest : List HostAction)
      (more : List (Option (List Byte))),
      r = [Config.cmdCode 8 ^^^ 0xFF, d, checksum [d] [a.extractLsb' 8 8, a.extractLsb' 0 8]] →
      s.env.script = callReadStore a.toNat ++ rest → s.env.inbox = some r :: more →
      ∃ t, CallDelivers 4 s t rest more
        [Config.cmdCode 8, a.extractLsb' 8 8, a.extractLsb' 0 8] 3 r [d])
  ∧ (∀ (n : Nat) (s : State), s.err ≠ 0 → hostAction (.skipIfErr n) s = .next
      { s with env := { s.env with script := s.env.script.drop n } })
  ∧ ∀ (n : Nat) (s : State), s.err = 0 → hostAction (.skipIfErr n) s = .next s

/-- R143: `VAL` on a response that validates completes, for every such response and register contents. -/
def Obligations.ValCompletesOnAResponseThatValidates : Prop :=
  ∀ (s : State) (d : List Byte), s.explen.toNat ≤ 257 → s.rx = (s.cmd ^^^ 0xFF) :: d →
    s.explen.toNat = d.length + 1 →
    exec .val s = .next
      { s with err := 0, pay := d, payv := true, sumv := false, stv := false, idv := false }
end

