-- ==== Sys2Proof/Laws/State.lean ====
section
/-! SUPPORT. One lemma per field per update: what each shared update of the state leaves in each register. -/

namespace Sys2Proof.Machine

/-! ### startOp -/

@[simp] theorem startOp_cmd (s : State) : (startOp s).cmd = s.cmd := rfl
@[simp] theorem startOp_explen (s : State) : (startOp s).explen = s.explen := rfl
@[simp] theorem startOp_addr (s : State) : (startOp s).addr = s.addr := rfl
@[simp] theorem startOp_len (s : State) : (startOp s).len = s.len := rfl
@[simp] theorem startOp_wval (s : State) : (startOp s).wval = s.wval := rfl
@[simp] theorem startOp_pl (s : State) : (startOp s).pl = s.pl := rfl
@[simp] theorem startOp_sec (s : State) : (startOp s).sec = s.sec := rfl
@[simp] theorem startOp_rx (s : State) : (startOp s).rx = s.rx := rfl
@[simp] theorem startOp_tx (s : State) : (startOp s).tx = s.tx := rfl
@[simp] theorem startOp_txv (s : State) : (startOp s).txv = s.txv := rfl
@[simp] theorem startOp_pay (s : State) : (startOp s).pay = s.pay := rfl
@[simp] theorem startOp_payv (s : State) : (startOp s).payv = s.payv := rfl
@[simp] theorem startOp_sum (s : State) : (startOp s).sum = s.sum := rfl
@[simp] theorem startOp_sumv (s : State) : (startOp s).sumv = s.sumv := rfl
@[simp] theorem startOp_st (s : State) : (startOp s).st = s.st := rfl
@[simp] theorem startOp_stv (s : State) : (startOp s).stv = s.stv := rfl
@[simp] theorem startOp_devId (s : State) : (startOp s).devId = s.devId := rfl
@[simp] theorem startOp_idv (s : State) : (startOp s).idv = s.idv := rfl
@[simp] theorem startOp_kidx (s : State) : (startOp s).kidx = s.kidx := rfl
@[simp] theorem startOp_callv (s : State) : (startOp s).callv = s.callv := rfl
@[simp] theorem startOp_opw (s : State) : (startOp s).opw = s.opw := rfl
@[simp] theorem startOp_err (s : State) : (startOp s).err = 0 := rfl
@[simp] theorem startOp_estk (s : State) : (startOp s).estk = s.estk := rfl
@[simp] theorem startOp_env (s : State) : (startOp s).env = s.env := rfl

/-! ### raise -/

@[simp] theorem raise_cmd (k : ErrKind) (s : State) : (raise k s).cmd = s.cmd := rfl
@[simp] theorem raise_explen (k : ErrKind) (s : State) : (raise k s).explen = s.explen := rfl
@[simp] theorem raise_addr (k : ErrKind) (s : State) : (raise k s).addr = s.addr := rfl
@[simp] theorem raise_len (k : ErrKind) (s : State) : (raise k s).len = s.len := rfl
@[simp] theorem raise_wval (k : ErrKind) (s : State) : (raise k s).wval = s.wval := rfl
@[simp] theorem raise_pl (k : ErrKind) (s : State) : (raise k s).pl = s.pl := rfl
@[simp] theorem raise_sec (k : ErrKind) (s : State) : (raise k s).sec = s.sec := rfl
@[simp] theorem raise_rx (k : ErrKind) (s : State) : (raise k s).rx = s.rx := rfl
@[simp] theorem raise_tx (k : ErrKind) (s : State) : (raise k s).tx = s.tx := rfl
@[simp] theorem raise_txv (k : ErrKind) (s : State) : (raise k s).txv = s.txv := rfl
@[simp] theorem raise_pay (k : ErrKind) (s : State) : (raise k s).pay = s.pay := rfl
@[simp] theorem raise_payv (k : ErrKind) (s : State) : (raise k s).payv = s.payv := rfl
@[simp] theorem raise_sum (k : ErrKind) (s : State) : (raise k s).sum = s.sum := rfl
@[simp] theorem raise_sumv (k : ErrKind) (s : State) : (raise k s).sumv = s.sumv := rfl
@[simp] theorem raise_st (k : ErrKind) (s : State) : (raise k s).st = s.st := rfl
@[simp] theorem raise_stv (k : ErrKind) (s : State) : (raise k s).stv = s.stv := rfl
@[simp] theorem raise_devId (k : ErrKind) (s : State) : (raise k s).devId = s.devId := rfl
@[simp] theorem raise_idv (k : ErrKind) (s : State) : (raise k s).idv = s.idv := rfl
@[simp] theorem raise_kidx (k : ErrKind) (s : State) : (raise k s).kidx = s.kidx := rfl
@[simp] theorem raise_callv (k : ErrKind) (s : State) : (raise k s).callv = s.callv := rfl
@[simp] theorem raise_opw (k : ErrKind) (s : State) : (raise k s).opw = s.opw := rfl
@[simp] theorem raise_err (k : ErrKind) (s : State) : (raise k s).err = k.code := rfl
@[simp] theorem raise_estk (k : ErrKind) (s : State) : (raise k s).estk = s.estk ||| stickyBit k.code := rfl
@[simp] theorem raise_env (k : ErrKind) (s : State) : (raise k s).env = s.env := rfl

/-! ### invalidateDerived -/

@[simp] theorem invalidateDerived_cmd (s : State) : (invalidateDerived s).cmd = s.cmd := rfl
@[simp] theorem invalidateDerived_explen (s : State) : (invalidateDerived s).explen = s.explen := rfl
@[simp] theorem invalidateDerived_addr (s : State) : (invalidateDerived s).addr = s.addr := rfl
@[simp] theorem invalidateDerived_len (s : State) : (invalidateDerived s).len = s.len := rfl
@[simp] theorem invalidateDerived_wval (s : State) : (invalidateDerived s).wval = s.wval := rfl
@[simp] theorem invalidateDerived_pl (s : State) : (invalidateDerived s).pl = s.pl := rfl
@[simp] theorem invalidateDerived_sec (s : State) : (invalidateDerived s).sec = s.sec := rfl
@[simp] theorem invalidateDerived_rx (s : State) : (invalidateDerived s).rx = s.rx := rfl
@[simp] theorem invalidateDerived_tx (s : State) : (invalidateDerived s).tx = s.tx := rfl
@[simp] theorem invalidateDerived_txv (s : State) : (invalidateDerived s).txv = s.txv := rfl
@[simp] theorem invalidateDerived_pay (s : State) : (invalidateDerived s).pay = s.pay := rfl
@[simp] theorem invalidateDerived_payv (s : State) : (invalidateDerived s).payv = s.payv := rfl
@[simp] theorem invalidateDerived_sum (s : State) : (invalidateDerived s).sum = s.sum := rfl
@[simp] theorem invalidateDerived_sumv (s : State) : (invalidateDerived s).sumv = false := rfl
@[simp] theorem invalidateDerived_st (s : State) : (invalidateDerived s).st = s.st := rfl
@[simp] theorem invalidateDerived_stv (s : State) : (invalidateDerived s).stv = false := rfl
@[simp] theorem invalidateDerived_devId (s : State) : (invalidateDerived s).devId = s.devId := rfl
@[simp] theorem invalidateDerived_idv (s : State) : (invalidateDerived s).idv = false := rfl
@[simp] theorem invalidateDerived_kidx (s : State) : (invalidateDerived s).kidx = s.kidx := rfl
@[simp] theorem invalidateDerived_callv (s : State) : (invalidateDerived s).callv = s.callv := rfl
@[simp] theorem invalidateDerived_opw (s : State) : (invalidateDerived s).opw = s.opw := rfl
@[simp] theorem invalidateDerived_err (s : State) : (invalidateDerived s).err = s.err := rfl
@[simp] theorem invalidateDerived_estk (s : State) : (invalidateDerived s).estk = s.estk := rfl
@[simp] theorem invalidateDerived_env (s : State) : (invalidateDerived s).env = s.env := rfl

/-! ### dropPayload -/

@[simp] theorem dropPayload_cmd (s : State) : (dropPayload s).cmd = s.cmd := rfl
@[simp] theorem dropPayload_explen (s : State) : (dropPayload s).explen = s.explen := rfl
@[simp] theorem dropPayload_addr (s : State) : (dropPayload s).addr = s.addr := rfl
@[simp] theorem dropPayload_len (s : State) : (dropPayload s).len = s.len := rfl
@[simp] theorem dropPayload_wval (s : State) : (dropPayload s).wval = s.wval := rfl
@[simp] theorem dropPayload_pl (s : State) : (dropPayload s).pl = s.pl := rfl
@[simp] theorem dropPayload_sec (s : State) : (dropPayload s).sec = s.sec := rfl
@[simp] theorem dropPayload_rx (s : State) : (dropPayload s).rx = s.rx := rfl
@[simp] theorem dropPayload_tx (s : State) : (dropPayload s).tx = s.tx := rfl
@[simp] theorem dropPayload_txv (s : State) : (dropPayload s).txv = s.txv := rfl
@[simp] theorem dropPayload_pay (s : State) : (dropPayload s).pay = [] := rfl
@[simp] theorem dropPayload_payv (s : State) : (dropPayload s).payv = false := rfl
@[simp] theorem dropPayload_sum (s : State) : (dropPayload s).sum = s.sum := rfl
@[simp] theorem dropPayload_sumv (s : State) : (dropPayload s).sumv = s.sumv := rfl
@[simp] theorem dropPayload_st (s : State) : (dropPayload s).st = s.st := rfl
@[simp] theorem dropPayload_stv (s : State) : (dropPayload s).stv = s.stv := rfl
@[simp] theorem dropPayload_devId (s : State) : (dropPayload s).devId = s.devId := rfl
@[simp] theorem dropPayload_idv (s : State) : (dropPayload s).idv = s.idv := rfl
@[simp] theorem dropPayload_kidx (s : State) : (dropPayload s).kidx = s.kidx := rfl
@[simp] theorem dropPayload_callv (s : State) : (dropPayload s).callv = s.callv := rfl
@[simp] theorem dropPayload_opw (s : State) : (dropPayload s).opw = s.opw := rfl
@[simp] theorem dropPayload_err (s : State) : (dropPayload s).err = s.err := rfl
@[simp] theorem dropPayload_estk (s : State) : (dropPayload s).estk = s.estk := rfl
@[simp] theorem dropPayload_env (s : State) : (dropPayload s).env = s.env := rfl

/-! ### closeCall -/

@[simp] theorem closeCall_cmd (s : State) : (closeCall s).cmd = s.cmd := rfl
@[simp] theorem closeCall_explen (s : State) : (closeCall s).explen = s.explen := rfl
@[simp] theorem closeCall_addr (s : State) : (closeCall s).addr = s.addr := rfl
@[simp] theorem closeCall_len (s : State) : (closeCall s).len = s.len := rfl
@[simp] theorem closeCall_wval (s : State) : (closeCall s).wval = s.wval := rfl
@[simp] theorem closeCall_pl (s : State) : (closeCall s).pl = s.pl := rfl
@[simp] theorem closeCall_sec (s : State) : (closeCall s).sec = s.sec := rfl
@[simp] theorem closeCall_rx (s : State) : (closeCall s).rx = s.rx := rfl
@[simp] theorem closeCall_tx (s : State) : (closeCall s).tx = s.tx := rfl
@[simp] theorem closeCall_txv (s : State) : (closeCall s).txv = s.txv := rfl
@[simp] theorem closeCall_pay (s : State) : (closeCall s).pay = s.pay := rfl
@[simp] theorem closeCall_payv (s : State) : (closeCall s).payv = s.payv := rfl
@[simp] theorem closeCall_sum (s : State) : (closeCall s).sum = s.sum := rfl
@[simp] theorem closeCall_sumv (s : State) : (closeCall s).sumv = s.sumv := rfl
@[simp] theorem closeCall_st (s : State) : (closeCall s).st = s.st := rfl
@[simp] theorem closeCall_stv (s : State) : (closeCall s).stv = s.stv := rfl
@[simp] theorem closeCall_devId (s : State) : (closeCall s).devId = s.devId := rfl
@[simp] theorem closeCall_idv (s : State) : (closeCall s).idv = s.idv := rfl
@[simp] theorem closeCall_kidx (s : State) : (closeCall s).kidx = s.kidx := rfl
@[simp] theorem closeCall_callv (s : State) : (closeCall s).callv = false := rfl
@[simp] theorem closeCall_opw (s : State) : (closeCall s).opw = s.opw := rfl
@[simp] theorem closeCall_err (s : State) : (closeCall s).err = s.err := rfl
@[simp] theorem closeCall_estk (s : State) : (closeCall s).estk = s.estk := rfl
@[simp] theorem closeCall_env (s : State) : (closeCall s).env = s.env := rfl

/-! ### setSum -/

@[simp] theorem setSum_cmd (c : Byte) (s : State) : (setSum c s).cmd = s.cmd := rfl
@[simp] theorem setSum_explen (c : Byte) (s : State) : (setSum c s).explen = s.explen := rfl
@[simp] theorem setSum_addr (c : Byte) (s : State) : (setSum c s).addr = s.addr := rfl
@[simp] theorem setSum_len (c : Byte) (s : State) : (setSum c s).len = s.len := rfl
@[simp] theorem setSum_wval (c : Byte) (s : State) : (setSum c s).wval = s.wval := rfl
@[simp] theorem setSum_pl (c : Byte) (s : State) : (setSum c s).pl = s.pl := rfl
@[simp] theorem setSum_sec (c : Byte) (s : State) : (setSum c s).sec = s.sec := rfl
@[simp] theorem setSum_rx (c : Byte) (s : State) : (setSum c s).rx = s.rx := rfl
@[simp] theorem setSum_tx (c : Byte) (s : State) : (setSum c s).tx = s.tx := rfl
@[simp] theorem setSum_txv (c : Byte) (s : State) : (setSum c s).txv = s.txv := rfl
@[simp] theorem setSum_pay (c : Byte) (s : State) : (setSum c s).pay = s.pay := rfl
@[simp] theorem setSum_payv (c : Byte) (s : State) : (setSum c s).payv = s.payv := rfl
@[simp] theorem setSum_sum (c : Byte) (s : State) : (setSum c s).sum = c := rfl
@[simp] theorem setSum_sumv (c : Byte) (s : State) : (setSum c s).sumv = true := rfl
@[simp] theorem setSum_st (c : Byte) (s : State) : (setSum c s).st = s.st := rfl
@[simp] theorem setSum_stv (c : Byte) (s : State) : (setSum c s).stv = s.stv := rfl
@[simp] theorem setSum_devId (c : Byte) (s : State) : (setSum c s).devId = s.devId := rfl
@[simp] theorem setSum_idv (c : Byte) (s : State) : (setSum c s).idv = s.idv := rfl
@[simp] theorem setSum_kidx (c : Byte) (s : State) : (setSum c s).kidx = s.kidx := rfl
@[simp] theorem setSum_callv (c : Byte) (s : State) : (setSum c s).callv = s.callv := rfl
@[simp] theorem setSum_opw (c : Byte) (s : State) : (setSum c s).opw = s.opw := rfl
@[simp] theorem setSum_err (c : Byte) (s : State) : (setSum c s).err = s.err := rfl
@[simp] theorem setSum_estk (c : Byte) (s : State) : (setSum c s).estk = s.estk := rfl
@[simp] theorem setSum_env (c : Byte) (s : State) : (setSum c s).env = s.env := rfl

/-! ### makeFrame -/

@[simp] theorem makeFrame_cmd (s : State) : (makeFrame s).cmd = s.cmd := rfl
@[simp] theorem makeFrame_explen (s : State) : (makeFrame s).explen = s.explen := rfl
@[simp] theorem makeFrame_addr (s : State) : (makeFrame s).addr = s.addr := rfl
@[simp] theorem makeFrame_len (s : State) : (makeFrame s).len = s.len := rfl
@[simp] theorem makeFrame_wval (s : State) : (makeFrame s).wval = s.wval := rfl
@[simp] theorem makeFrame_pl (s : State) : (makeFrame s).pl = s.pl := rfl
@[simp] theorem makeFrame_sec (s : State) : (makeFrame s).sec = s.sec := rfl
@[simp] theorem makeFrame_rx (s : State) : (makeFrame s).rx = s.rx := rfl
@[simp] theorem makeFrame_tx (s : State) : (makeFrame s).tx = s.cmd :: s.pl := rfl
@[simp] theorem makeFrame_txv (s : State) : (makeFrame s).txv = true := rfl
@[simp] theorem makeFrame_pay (s : State) : (makeFrame s).pay = s.pay := rfl
@[simp] theorem makeFrame_payv (s : State) : (makeFrame s).payv = s.payv := rfl
@[simp] theorem makeFrame_sum (s : State) : (makeFrame s).sum = s.sum := rfl
@[simp] theorem makeFrame_sumv (s : State) : (makeFrame s).sumv = s.sumv := rfl
@[simp] theorem makeFrame_st (s : State) : (makeFrame s).st = s.st := rfl
@[simp] theorem makeFrame_stv (s : State) : (makeFrame s).stv = s.stv := rfl
@[simp] theorem makeFrame_devId (s : State) : (makeFrame s).devId = s.devId := rfl
@[simp] theorem makeFrame_idv (s : State) : (makeFrame s).idv = s.idv := rfl
@[simp] theorem makeFrame_kidx (s : State) : (makeFrame s).kidx = s.kidx := rfl
@[simp] theorem makeFrame_callv (s : State) : (makeFrame s).callv = s.callv := rfl
@[simp] theorem makeFrame_opw (s : State) : (makeFrame s).opw = s.opw := rfl
@[simp] theorem makeFrame_err (s : State) : (makeFrame s).err = s.err := rfl
@[simp] theorem makeFrame_estk (s : State) : (makeFrame s).estk = s.estk := rfl
@[simp] theorem makeFrame_env (s : State) : (makeFrame s).env = s.env := rfl

/-! ### deliverPayload -/

@[simp] theorem deliverPayload_cmd (v : List Byte) (s : State) : (deliverPayload v s).cmd = s.cmd := rfl
@[simp] theorem deliverPayload_explen (v : List Byte) (s : State) : (deliverPayload v s).explen = s.explen := rfl
@[simp] theorem deliverPayload_addr (v : List Byte) (s : State) : (deliverPayload v s).addr = s.addr := rfl
@[simp] theorem deliverPayload_len (v : List Byte) (s : State) : (deliverPayload v s).len = s.len := rfl
@[simp] theorem deliverPayload_wval (v : List Byte) (s : State) : (deliverPayload v s).wval = s.wval := rfl
@[simp] theorem deliverPayload_pl (v : List Byte) (s : State) : (deliverPayload v s).pl = s.pl := rfl
@[simp] theorem deliverPayload_sec (v : List Byte) (s : State) : (deliverPayload v s).sec = s.sec := rfl
@[simp] theorem deliverPayload_rx (v : List Byte) (s : State) : (deliverPayload v s).rx = s.rx := rfl
@[simp] theorem deliverPayload_tx (v : List Byte) (s : State) : (deliverPayload v s).tx = s.tx := rfl
@[simp] theorem deliverPayload_txv (v : List Byte) (s : State) : (deliverPayload v s).txv = s.txv := rfl
@[simp] theorem deliverPayload_pay (v : List Byte) (s : State) : (deliverPayload v s).pay = v := rfl
@[simp] theorem deliverPayload_payv (v : List Byte) (s : State) : (deliverPayload v s).payv = true := rfl
@[simp] theorem deliverPayload_sum (v : List Byte) (s : State) : (deliverPayload v s).sum = s.sum := rfl
@[simp] theorem deliverPayload_sumv (v : List Byte) (s : State) : (deliverPayload v s).sumv = s.sumv := rfl
@[simp] theorem deliverPayload_st (v : List Byte) (s : State) : (deliverPayload v s).st = s.st := rfl
@[simp] theorem deliverPayload_stv (v : List Byte) (s : State) : (deliverPayload v s).stv = s.stv := rfl
@[simp] theorem deliverPayload_devId (v : List Byte) (s : State) : (deliverPayload v s).devId = s.devId := rfl
@[simp] theorem deliverPayload_idv (v : List Byte) (s : State) : (deliverPayload v s).idv = s.idv := rfl
@[simp] theorem deliverPayload_kidx (v : List Byte) (s : State) : (deliverPayload v s).kidx = s.kidx := rfl
@[simp] theorem deliverPayload_callv (v : List Byte) (s : State) : (deliverPayload v s).callv = s.callv := rfl
@[simp] theorem deliverPayload_opw (v : List Byte) (s : State) : (deliverPayload v s).opw = s.opw := rfl
@[simp] theorem deliverPayload_err (v : List Byte) (s : State) : (deliverPayload v s).err = s.err := rfl
@[simp] theorem deliverPayload_estk (v : List Byte) (s : State) : (deliverPayload v s).estk = s.estk := rfl
@[simp] theorem deliverPayload_env (v : List Byte) (s : State) : (deliverPayload v s).env = s.env := rfl

/-! ### beginCall -/

@[simp] theorem beginCall_cmd (s : State) : (beginCall s).cmd = s.cmd := rfl
@[simp] theorem beginCall_explen (s : State) : (beginCall s).explen = s.explen := rfl
@[simp] theorem beginCall_addr (s : State) : (beginCall s).addr = s.addr := rfl
@[simp] theorem beginCall_len (s : State) : (beginCall s).len = s.len := rfl
@[simp] theorem beginCall_wval (s : State) : (beginCall s).wval = s.wval := rfl
@[simp] theorem beginCall_pl (s : State) : (beginCall s).pl = s.pl := rfl
@[simp] theorem beginCall_sec (s : State) : (beginCall s).sec = s.sec := rfl
@[simp] theorem beginCall_rx (s : State) : (beginCall s).rx = [] := rfl
@[simp] theorem beginCall_tx (s : State) : (beginCall s).tx = [] := rfl
@[simp] theorem beginCall_txv (s : State) : (beginCall s).txv = false := rfl
@[simp] theorem beginCall_pay (s : State) : (beginCall s).pay = [] := rfl
@[simp] theorem beginCall_payv (s : State) : (beginCall s).payv = false := rfl
@[simp] theorem beginCall_sum (s : State) : (beginCall s).sum = s.sum := rfl
@[simp] theorem beginCall_sumv (s : State) : (beginCall s).sumv = false := rfl
@[simp] theorem beginCall_st (s : State) : (beginCall s).st = s.st := rfl
@[simp] theorem beginCall_stv (s : State) : (beginCall s).stv = false := rfl
@[simp] theorem beginCall_devId (s : State) : (beginCall s).devId = s.devId := rfl
@[simp] theorem beginCall_idv (s : State) : (beginCall s).idv = false := rfl
@[simp] theorem beginCall_kidx (s : State) : (beginCall s).kidx = s.kidx := rfl
@[simp] theorem beginCall_callv (s : State) : (beginCall s).callv = false := rfl
@[simp] theorem beginCall_opw (s : State) : (beginCall s).opw = s.opw := rfl
@[simp] theorem beginCall_err (s : State) : (beginCall s).err = s.err := rfl
@[simp] theorem beginCall_estk (s : State) : (beginCall s).estk = s.estk := rfl
@[simp] theorem beginCall_env (s : State) : (beginCall s).env = s.env := rfl

/-! ### openCall -/

@[simp] theorem openCall_cmd (k : Fin 9) (p q : List Byte) (n : Len9) (s : State) : (openCall k p q n s).cmd = Config.cmdCode k := rfl
@[simp] theorem openCall_explen (k : Fin 9) (p q : List Byte) (n : Len9) (s : State) : (openCall k p q n s).explen = n := rfl
@[simp] theorem openCall_addr (k : Fin 9) (p q : List Byte) (n : Len9) (s : State) : (openCall k p q n s).addr = s.addr := rfl
@[simp] theorem openCall_len (k : Fin 9) (p q : List Byte) (n : Len9) (s : State) : (openCall k p q n s).len = s.len := rfl
@[simp] theorem openCall_wval (k : Fin 9) (p q : List Byte) (n : Len9) (s : State) : (openCall k p q n s).wval = s.wval := rfl
@[simp] theorem openCall_pl (k : Fin 9) (p q : List Byte) (n : Len9) (s : State) : (openCall k p q n s).pl = p := rfl
@[simp] theorem openCall_sec (k : Fin 9) (p q : List Byte) (n : Len9) (s : State) : (openCall k p q n s).sec = q := rfl
@[simp] theorem openCall_rx (k : Fin 9) (p q : List Byte) (n : Len9) (s : State) : (openCall k p q n s).rx = s.rx := rfl
@[simp] theorem openCall_tx (k : Fin 9) (p q : List Byte) (n : Len9) (s : State) : (openCall k p q n s).tx = Config.cmdCode k :: p := rfl
@[simp] theorem openCall_txv (k : Fin 9) (p q : List Byte) (n : Len9) (s : State) : (openCall k p q n s).txv = true := rfl
@[simp] theorem openCall_pay (k : Fin 9) (p q : List Byte) (n : Len9) (s : State) : (openCall k p q n s).pay = s.pay := rfl
@[simp] theorem openCall_payv (k : Fin 9) (p q : List Byte) (n : Len9) (s : State) : (openCall k p q n s).payv = s.payv := rfl
@[simp] theorem openCall_sum (k : Fin 9) (p q : List Byte) (n : Len9) (s : State) : (openCall k p q n s).sum = s.sum := rfl
@[simp] theorem openCall_sumv (k : Fin 9) (p q : List Byte) (n : Len9) (s : State) : (openCall k p q n s).sumv = s.sumv := rfl
@[simp] theorem openCall_st (k : Fin 9) (p q : List Byte) (n : Len9) (s : State) : (openCall k p q n s).st = s.st := rfl
@[simp] theorem openCall_stv (k : Fin 9) (p q : List Byte) (n : Len9) (s : State) : (openCall k p q n s).stv = s.stv := rfl
@[simp] theorem openCall_devId (k : Fin 9) (p q : List Byte) (n : Len9) (s : State) : (openCall k p q n s).devId = s.devId := rfl
@[simp] theorem openCall_idv (k : Fin 9) (p q : List Byte) (n : Len9) (s : State) : (openCall k p q n s).idv = s.idv := rfl
@[simp] theorem openCall_kidx (k : Fin 9) (p q : List Byte) (n : Len9) (s : State) : (openCall k p q n s).kidx = indexBits k := rfl
@[simp] theorem openCall_callv (k : Fin 9) (p q : List Byte) (n : Len9) (s : State) : (openCall k p q n s).callv = true := rfl
@[simp] theorem openCall_opw (k : Fin 9) (p q : List Byte) (n : Len9) (s : State) : (openCall k p q n s).opw = s.opw := rfl
@[simp] theorem openCall_err (k : Fin 9) (p q : List Byte) (n : Len9) (s : State) : (openCall k p q n s).err = s.err := rfl
@[simp] theorem openCall_estk (k : Fin 9) (p q : List Byte) (n : Len9) (s : State) : (openCall k p q n s).estk = s.estk := rfl
@[simp] theorem openCall_env (k : Fin 9) (p q : List Byte) (n : Len9) (s : State) : (openCall k p q n s).env = s.env := rfl

/-! ### loadRx -/

@[simp] theorem loadRx_cmd (v : List Byte) (s : State) : (loadRx v s).cmd = s.cmd := rfl
@[simp] theorem loadRx_explen (v : List Byte) (s : State) : (loadRx v s).explen = s.explen := rfl
@[simp] theorem loadRx_addr (v : List Byte) (s : State) : (loadRx v s).addr = s.addr := rfl
@[simp] theorem loadRx_len (v : List Byte) (s : State) : (loadRx v s).len = s.len := rfl
@[simp] theorem loadRx_wval (v : List Byte) (s : State) : (loadRx v s).wval = s.wval := rfl
@[simp] theorem loadRx_pl (v : List Byte) (s : State) : (loadRx v s).pl = s.pl := rfl
@[simp] theorem loadRx_sec (v : List Byte) (s : State) : (loadRx v s).sec = s.sec := rfl
@[simp] theorem loadRx_rx (v : List Byte) (s : State) : (loadRx v s).rx = v.take Config.rxCap := rfl
@[simp] theorem loadRx_tx (v : List Byte) (s : State) : (loadRx v s).tx = s.tx := rfl
@[simp] theorem loadRx_txv (v : List Byte) (s : State) : (loadRx v s).txv = s.txv := rfl
@[simp] theorem loadRx_pay (v : List Byte) (s : State) : (loadRx v s).pay = s.pay := rfl
@[simp] theorem loadRx_payv (v : List Byte) (s : State) : (loadRx v s).payv = s.payv := rfl
@[simp] theorem loadRx_sum (v : List Byte) (s : State) : (loadRx v s).sum = s.sum := rfl
@[simp] theorem loadRx_sumv (v : List Byte) (s : State) : (loadRx v s).sumv = s.sumv := rfl
@[simp] theorem loadRx_st (v : List Byte) (s : State) : (loadRx v s).st = s.st := rfl
@[simp] theorem loadRx_stv (v : List Byte) (s : State) : (loadRx v s).stv = s.stv := rfl
@[simp] theorem loadRx_devId (v : List Byte) (s : State) : (loadRx v s).devId = s.devId := rfl
@[simp] theorem loadRx_idv (v : List Byte) (s : State) : (loadRx v s).idv = s.idv := rfl
@[simp] theorem loadRx_kidx (v : List Byte) (s : State) : (loadRx v s).kidx = s.kidx := rfl
@[simp] theorem loadRx_callv (v : List Byte) (s : State) : (loadRx v s).callv = s.callv := rfl
@[simp] theorem loadRx_opw (v : List Byte) (s : State) : (loadRx v s).opw = s.opw := rfl
@[simp] theorem loadRx_err (v : List Byte) (s : State) : (loadRx v s).err = s.err := rfl
@[simp] theorem loadRx_estk (v : List Byte) (s : State) : (loadRx v s).estk = s.estk := rfl
@[simp] theorem loadRx_env (v : List Byte) (s : State) : (loadRx v s).env = s.env := rfl

/-! ### loadPay -/

@[simp] theorem loadPay_cmd (v : List Byte) (s : State) : (loadPay v s).cmd = s.cmd := rfl
@[simp] theorem loadPay_explen (v : List Byte) (s : State) : (loadPay v s).explen = s.explen := rfl
@[simp] theorem loadPay_addr (v : List Byte) (s : State) : (loadPay v s).addr = s.addr := rfl
@[simp] theorem loadPay_len (v : List Byte) (s : State) : (loadPay v s).len = s.len := rfl
@[simp] theorem loadPay_wval (v : List Byte) (s : State) : (loadPay v s).wval = s.wval := rfl
@[simp] theorem loadPay_pl (v : List Byte) (s : State) : (loadPay v s).pl = s.pl := rfl
@[simp] theorem loadPay_sec (v : List Byte) (s : State) : (loadPay v s).sec = s.sec := rfl
@[simp] theorem loadPay_rx (v : List Byte) (s : State) : (loadPay v s).rx = s.rx := rfl
@[simp] theorem loadPay_tx (v : List Byte) (s : State) : (loadPay v s).tx = s.tx := rfl
@[simp] theorem loadPay_txv (v : List Byte) (s : State) : (loadPay v s).txv = s.txv := rfl
@[simp] theorem loadPay_pay (v : List Byte) (s : State) : (loadPay v s).pay = v := rfl
@[simp] theorem loadPay_payv (v : List Byte) (s : State) : (loadPay v s).payv = true := rfl
@[simp] theorem loadPay_sum (v : List Byte) (s : State) : (loadPay v s).sum = s.sum := rfl
@[simp] theorem loadPay_sumv (v : List Byte) (s : State) : (loadPay v s).sumv = false := rfl
@[simp] theorem loadPay_st (v : List Byte) (s : State) : (loadPay v s).st = s.st := rfl
@[simp] theorem loadPay_stv (v : List Byte) (s : State) : (loadPay v s).stv = false := rfl
@[simp] theorem loadPay_devId (v : List Byte) (s : State) : (loadPay v s).devId = s.devId := rfl
@[simp] theorem loadPay_idv (v : List Byte) (s : State) : (loadPay v s).idv = false := rfl
@[simp] theorem loadPay_kidx (v : List Byte) (s : State) : (loadPay v s).kidx = s.kidx := rfl
@[simp] theorem loadPay_callv (v : List Byte) (s : State) : (loadPay v s).callv = s.callv := rfl
@[simp] theorem loadPay_opw (v : List Byte) (s : State) : (loadPay v s).opw = s.opw := rfl
@[simp] theorem loadPay_err (v : List Byte) (s : State) : (loadPay v s).err = s.err := rfl
@[simp] theorem loadPay_estk (v : List Byte) (s : State) : (loadPay v s).estk = s.estk := rfl
@[simp] theorem loadPay_env (v : List Byte) (s : State) : (loadPay v s).env = s.env := rfl

/-! ### loadPl -/

@[simp] theorem loadPl_cmd (v : List Byte) (s : State) : (loadPl v s).cmd = s.cmd := rfl
@[simp] theorem loadPl_explen (v : List Byte) (s : State) : (loadPl v s).explen = s.explen := rfl
@[simp] theorem loadPl_addr (v : List Byte) (s : State) : (loadPl v s).addr = s.addr := rfl
@[simp] theorem loadPl_len (v : List Byte) (s : State) : (loadPl v s).len = s.len := rfl
@[simp] theorem loadPl_wval (v : List Byte) (s : State) : (loadPl v s).wval = s.wval := rfl
@[simp] theorem loadPl_pl (v : List Byte) (s : State) : (loadPl v s).pl = v := rfl
@[simp] theorem loadPl_sec (v : List Byte) (s : State) : (loadPl v s).sec = s.sec := rfl
@[simp] theorem loadPl_rx (v : List Byte) (s : State) : (loadPl v s).rx = s.rx := rfl
@[simp] theorem loadPl_tx (v : List Byte) (s : State) : (loadPl v s).tx = s.tx := rfl
@[simp] theorem loadPl_txv (v : List Byte) (s : State) : (loadPl v s).txv = s.txv := rfl
@[simp] theorem loadPl_pay (v : List Byte) (s : State) : (loadPl v s).pay = s.pay := rfl
@[simp] theorem loadPl_payv (v : List Byte) (s : State) : (loadPl v s).payv = s.payv := rfl
@[simp] theorem loadPl_sum (v : List Byte) (s : State) : (loadPl v s).sum = s.sum := rfl
@[simp] theorem loadPl_sumv (v : List Byte) (s : State) : (loadPl v s).sumv = s.sumv := rfl
@[simp] theorem loadPl_st (v : List Byte) (s : State) : (loadPl v s).st = s.st := rfl
@[simp] theorem loadPl_stv (v : List Byte) (s : State) : (loadPl v s).stv = s.stv := rfl
@[simp] theorem loadPl_devId (v : List Byte) (s : State) : (loadPl v s).devId = s.devId := rfl
@[simp] theorem loadPl_idv (v : List Byte) (s : State) : (loadPl v s).idv = s.idv := rfl
@[simp] theorem loadPl_kidx (v : List Byte) (s : State) : (loadPl v s).kidx = s.kidx := rfl
@[simp] theorem loadPl_callv (v : List Byte) (s : State) : (loadPl v s).callv = false := rfl
@[simp] theorem loadPl_opw (v : List Byte) (s : State) : (loadPl v s).opw = s.opw := rfl
@[simp] theorem loadPl_err (v : List Byte) (s : State) : (loadPl v s).err = s.err := rfl
@[simp] theorem loadPl_estk (v : List Byte) (s : State) : (loadPl v s).estk = s.estk := rfl
@[simp] theorem loadPl_env (v : List Byte) (s : State) : (loadPl v s).env = s.env := rfl

/-! ### loadSec -/

@[simp] theorem loadSec_cmd (v : List Byte) (s : State) : (loadSec v s).cmd = s.cmd := rfl
@[simp] theorem loadSec_explen (v : List Byte) (s : State) : (loadSec v s).explen = s.explen := rfl
@[simp] theorem loadSec_addr (v : List Byte) (s : State) : (loadSec v s).addr = s.addr := rfl
@[simp] theorem loadSec_len (v : List Byte) (s : State) : (loadSec v s).len = s.len := rfl
@[simp] theorem loadSec_wval (v : List Byte) (s : State) : (loadSec v s).wval = s.wval := rfl
@[simp] theorem loadSec_pl (v : List Byte) (s : State) : (loadSec v s).pl = s.pl := rfl
@[simp] theorem loadSec_sec (v : List Byte) (s : State) : (loadSec v s).sec = v := rfl
@[simp] theorem loadSec_rx (v : List Byte) (s : State) : (loadSec v s).rx = s.rx := rfl
@[simp] theorem loadSec_tx (v : List Byte) (s : State) : (loadSec v s).tx = s.tx := rfl
@[simp] theorem loadSec_txv (v : List Byte) (s : State) : (loadSec v s).txv = s.txv := rfl
@[simp] theorem loadSec_pay (v : List Byte) (s : State) : (loadSec v s).pay = s.pay := rfl
@[simp] theorem loadSec_payv (v : List Byte) (s : State) : (loadSec v s).payv = s.payv := rfl
@[simp] theorem loadSec_sum (v : List Byte) (s : State) : (loadSec v s).sum = s.sum := rfl
@[simp] theorem loadSec_sumv (v : List Byte) (s : State) : (loadSec v s).sumv = s.sumv := rfl
@[simp] theorem loadSec_st (v : List Byte) (s : State) : (loadSec v s).st = s.st := rfl
@[simp] theorem loadSec_stv (v : List Byte) (s : State) : (loadSec v s).stv = s.stv := rfl
@[simp] theorem loadSec_devId (v : List Byte) (s : State) : (loadSec v s).devId = s.devId := rfl
@[simp] theorem loadSec_idv (v : List Byte) (s : State) : (loadSec v s).idv = s.idv := rfl
@[simp] theorem loadSec_kidx (v : List Byte) (s : State) : (loadSec v s).kidx = s.kidx := rfl
@[simp] theorem loadSec_callv (v : List Byte) (s : State) : (loadSec v s).callv = false := rfl
@[simp] theorem loadSec_opw (v : List Byte) (s : State) : (loadSec v s).opw = s.opw := rfl
@[simp] theorem loadSec_err (v : List Byte) (s : State) : (loadSec v s).err = s.err := rfl
@[simp] theorem loadSec_estk (v : List Byte) (s : State) : (loadSec v s).estk = s.estk := rfl
@[simp] theorem loadSec_env (v : List Byte) (s : State) : (loadSec v s).env = s.env := rfl

/-! ### record -/

@[simp] theorem record_cmd (e : Event) (s : State) : (record e s).cmd = s.cmd := rfl
@[simp] theorem record_explen (e : Event) (s : State) : (record e s).explen = s.explen := rfl
@[simp] theorem record_addr (e : Event) (s : State) : (record e s).addr = s.addr := rfl
@[simp] theorem record_len (e : Event) (s : State) : (record e s).len = s.len := rfl
@[simp] theorem record_wval (e : Event) (s : State) : (record e s).wval = s.wval := rfl
@[simp] theorem record_pl (e : Event) (s : State) : (record e s).pl = s.pl := rfl
@[simp] theorem record_sec (e : Event) (s : State) : (record e s).sec = s.sec := rfl
@[simp] theorem record_rx (e : Event) (s : State) : (record e s).rx = s.rx := rfl
@[simp] theorem record_tx (e : Event) (s : State) : (record e s).tx = s.tx := rfl
@[simp] theorem record_txv (e : Event) (s : State) : (record e s).txv = s.txv := rfl
@[simp] theorem record_pay (e : Event) (s : State) : (record e s).pay = s.pay := rfl
@[simp] theorem record_payv (e : Event) (s : State) : (record e s).payv = s.payv := rfl
@[simp] theorem record_sum (e : Event) (s : State) : (record e s).sum = s.sum := rfl
@[simp] theorem record_sumv (e : Event) (s : State) : (record e s).sumv = s.sumv := rfl
@[simp] theorem record_st (e : Event) (s : State) : (record e s).st = s.st := rfl
@[simp] theorem record_stv (e : Event) (s : State) : (record e s).stv = s.stv := rfl
@[simp] theorem record_devId (e : Event) (s : State) : (record e s).devId = s.devId := rfl
@[simp] theorem record_idv (e : Event) (s : State) : (record e s).idv = s.idv := rfl
@[simp] theorem record_kidx (e : Event) (s : State) : (record e s).kidx = s.kidx := rfl
@[simp] theorem record_callv (e : Event) (s : State) : (record e s).callv = s.callv := rfl
@[simp] theorem record_opw (e : Event) (s : State) : (record e s).opw = s.opw := rfl
@[simp] theorem record_err (e : Event) (s : State) : (record e s).err = s.err := rfl
@[simp] theorem record_estk (e : Event) (s : State) : (record e s).estk = s.estk := rfl
@[simp] theorem record_script (e : Event) (s : State) : (record e s).env.script = s.env.script := rfl
@[simp] theorem record_inbox (e : Event) (s : State) : (record e s).env.inbox = s.env.inbox := rfl
@[simp] theorem record_events (e : Event) (s : State) : (record e s).env.events = s.env.events ++ [e] := rfl
@[simp] theorem record_hostErr (e : Event) (s : State) : (record e s).env.hostErr = s.env.hostErr := rfl
@[simp] theorem record_draws (e : Event) (s : State) : (record e s).env.draws = s.env.draws := rfl

/-! ### draw -/

@[simp] theorem draw_cmd (s : State) : (draw s).cmd = s.cmd := rfl
@[simp] theorem draw_explen (s : State) : (draw s).explen = s.explen := rfl
@[simp] theorem draw_addr (s : State) : (draw s).addr = s.addr := rfl
@[simp] theorem draw_len (s : State) : (draw s).len = s.len := rfl
@[simp] theorem draw_wval (s : State) : (draw s).wval = s.wval := rfl
@[simp] theorem draw_pl (s : State) : (draw s).pl = s.pl := rfl
@[simp] theorem draw_sec (s : State) : (draw s).sec = s.sec := rfl
@[simp] theorem draw_rx (s : State) : (draw s).rx = s.rx := rfl
@[simp] theorem draw_tx (s : State) : (draw s).tx = s.tx := rfl
@[simp] theorem draw_txv (s : State) : (draw s).txv = s.txv := rfl
@[simp] theorem draw_pay (s : State) : (draw s).pay = s.pay := rfl
@[simp] theorem draw_payv (s : State) : (draw s).payv = s.payv := rfl
@[simp] theorem draw_sum (s : State) : (draw s).sum = s.sum := rfl
@[simp] theorem draw_sumv (s : State) : (draw s).sumv = s.sumv := rfl
@[simp] theorem draw_st (s : State) : (draw s).st = s.st := rfl
@[simp] theorem draw_stv (s : State) : (draw s).stv = s.stv := rfl
@[simp] theorem draw_devId (s : State) : (draw s).devId = s.devId := rfl
@[simp] theorem draw_idv (s : State) : (draw s).idv = s.idv := rfl
@[simp] theorem draw_kidx (s : State) : (draw s).kidx = s.kidx := rfl
@[simp] theorem draw_callv (s : State) : (draw s).callv = s.callv := rfl
@[simp] theorem draw_opw (s : State) : (draw s).opw = s.opw := rfl
@[simp] theorem draw_err (s : State) : (draw s).err = s.err := rfl
@[simp] theorem draw_estk (s : State) : (draw s).estk = s.estk := rfl
@[simp] theorem draw_script (s : State) : (draw s).env.script = s.env.script := rfl
@[simp] theorem draw_inbox (s : State) : (draw s).env.inbox = s.env.inbox := rfl
@[simp] theorem draw_events (s : State) : (draw s).env.events = s.env.events := rfl
@[simp] theorem draw_hostErr (s : State) : (draw s).env.hostErr = s.env.hostErr := rfl
@[simp] theorem draw_draws (s : State) : (draw s).env.draws = s.env.draws + 1 := rfl

/-! ### setHostErr -/

@[simp] theorem setHostErr_cmd (c : BitVec 4) (s : State) : (setHostErr c s).cmd = s.cmd := rfl
@[simp] theorem setHostErr_explen (c : BitVec 4) (s : State) : (setHostErr c s).explen = s.explen := rfl
@[simp] theorem setHostErr_addr (c : BitVec 4) (s : State) : (setHostErr c s).addr = s.addr := rfl
@[simp] theorem setHostErr_len (c : BitVec 4) (s : State) : (setHostErr c s).len = s.len := rfl
@[simp] theorem setHostErr_wval (c : BitVec 4) (s : State) : (setHostErr c s).wval = s.wval := rfl
@[simp] theorem setHostErr_pl (c : BitVec 4) (s : State) : (setHostErr c s).pl = s.pl := rfl
@[simp] theorem setHostErr_sec (c : BitVec 4) (s : State) : (setHostErr c s).sec = s.sec := rfl
@[simp] theorem setHostErr_rx (c : BitVec 4) (s : State) : (setHostErr c s).rx = s.rx := rfl
@[simp] theorem setHostErr_tx (c : BitVec 4) (s : State) : (setHostErr c s).tx = s.tx := rfl
@[simp] theorem setHostErr_txv (c : BitVec 4) (s : State) : (setHostErr c s).txv = s.txv := rfl
@[simp] theorem setHostErr_pay (c : BitVec 4) (s : State) : (setHostErr c s).pay = s.pay := rfl
@[simp] theorem setHostErr_payv (c : BitVec 4) (s : State) : (setHostErr c s).payv = s.payv := rfl
@[simp] theorem setHostErr_sum (c : BitVec 4) (s : State) : (setHostErr c s).sum = s.sum := rfl
@[simp] theorem setHostErr_sumv (c : BitVec 4) (s : State) : (setHostErr c s).sumv = s.sumv := rfl
@[simp] theorem setHostErr_st (c : BitVec 4) (s : State) : (setHostErr c s).st = s.st := rfl
@[simp] theorem setHostErr_stv (c : BitVec 4) (s : State) : (setHostErr c s).stv = s.stv := rfl
@[simp] theorem setHostErr_devId (c : BitVec 4) (s : State) : (setHostErr c s).devId = s.devId := rfl
@[simp] theorem setHostErr_idv (c : BitVec 4) (s : State) : (setHostErr c s).idv = s.idv := rfl
@[simp] theorem setHostErr_kidx (c : BitVec 4) (s : State) : (setHostErr c s).kidx = s.kidx := rfl
@[simp] theorem setHostErr_callv (c : BitVec 4) (s : State) : (setHostErr c s).callv = s.callv := rfl
@[simp] theorem setHostErr_opw (c : BitVec 4) (s : State) : (setHostErr c s).opw = s.opw := rfl
@[simp] theorem setHostErr_err (c : BitVec 4) (s : State) : (setHostErr c s).err = s.err := rfl
@[simp] theorem setHostErr_estk (c : BitVec 4) (s : State) : (setHostErr c s).estk = s.estk := rfl
@[simp] theorem setHostErr_script (c : BitVec 4) (s : State) : (setHostErr c s).env.script = s.env.script := rfl
@[simp] theorem setHostErr_inbox (c : BitVec 4) (s : State) : (setHostErr c s).env.inbox = s.env.inbox := rfl
@[simp] theorem setHostErr_events (c : BitVec 4) (s : State) : (setHostErr c s).env.events = s.env.events := rfl
@[simp] theorem setHostErr_hostErr (c : BitVec 4) (s : State) : (setHostErr c s).env.hostErr = c := rfl
@[simp] theorem setHostErr_draws (c : BitVec 4) (s : State) : (setHostErr c s).env.draws = s.env.draws := rfl

/-! ### setScript -/

@[simp] theorem setScript_cmd (l : List HostAction) (s : State) : (setScript l s).cmd = s.cmd := rfl
@[simp] theorem setScript_explen (l : List HostAction) (s : State) : (setScript l s).explen = s.explen := rfl
@[simp] theorem setScript_addr (l : List HostAction) (s : State) : (setScript l s).addr = s.addr := rfl
@[simp] theorem setScript_len (l : List HostAction) (s : State) : (setScript l s).len = s.len := rfl
@[simp] theorem setScript_wval (l : List HostAction) (s : State) : (setScript l s).wval = s.wval := rfl
@[simp] theorem setScript_pl (l : List HostAction) (s : State) : (setScript l s).pl = s.pl := rfl
@[simp] theorem setScript_sec (l : List HostAction) (s : State) : (setScript l s).sec = s.sec := rfl
@[simp] theorem setScript_rx (l : List HostAction) (s : State) : (setScript l s).rx = s.rx := rfl
@[simp] theorem setScript_tx (l : List HostAction) (s : State) : (setScript l s).tx = s.tx := rfl
@[simp] theorem setScript_txv (l : List HostAction) (s : State) : (setScript l s).txv = s.txv := rfl
@[simp] theorem setScript_pay (l : List HostAction) (s : State) : (setScript l s).pay = s.pay := rfl
@[simp] theorem setScript_payv (l : List HostAction) (s : State) : (setScript l s).payv = s.payv := rfl
@[simp] theorem setScript_sum (l : List HostAction) (s : State) : (setScript l s).sum = s.sum := rfl
@[simp] theorem setScript_sumv (l : List HostAction) (s : State) : (setScript l s).sumv = s.sumv := rfl
@[simp] theorem setScript_st (l : List HostAction) (s : State) : (setScript l s).st = s.st := rfl
@[simp] theorem setScript_stv (l : List HostAction) (s : State) : (setScript l s).stv = s.stv := rfl
@[simp] theorem setScript_devId (l : List HostAction) (s : State) : (setScript l s).devId = s.devId := rfl
@[simp] theorem setScript_idv (l : List HostAction) (s : State) : (setScript l s).idv = s.idv := rfl
@[simp] theorem setScript_kidx (l : List HostAction) (s : State) : (setScript l s).kidx = s.kidx := rfl
@[simp] theorem setScript_callv (l : List HostAction) (s : State) : (setScript l s).callv = s.callv := rfl
@[simp] theorem setScript_opw (l : List HostAction) (s : State) : (setScript l s).opw = s.opw := rfl
@[simp] theorem setScript_err (l : List HostAction) (s : State) : (setScript l s).err = s.err := rfl
@[simp] theorem setScript_estk (l : List HostAction) (s : State) : (setScript l s).estk = s.estk := rfl
@[simp] theorem setScript_script (l : List HostAction) (s : State) : (setScript l s).env.script = l := rfl
@[simp] theorem setScript_inbox (l : List HostAction) (s : State) : (setScript l s).env.inbox = s.env.inbox := rfl
@[simp] theorem setScript_events (l : List HostAction) (s : State) : (setScript l s).env.events = s.env.events := rfl
@[simp] theorem setScript_hostErr (l : List HostAction) (s : State) : (setScript l s).env.hostErr = s.env.hostErr := rfl
@[simp] theorem setScript_draws (l : List HostAction) (s : State) : (setScript l s).env.draws = s.env.draws := rfl

/-! ### pushAction -/

@[simp] theorem pushAction_cmd (a : HostAction) (s : State) : (pushAction a s).cmd = s.cmd := rfl
@[simp] theorem pushAction_explen (a : HostAction) (s : State) : (pushAction a s).explen = s.explen := rfl
@[simp] theorem pushAction_addr (a : HostAction) (s : State) : (pushAction a s).addr = s.addr := rfl
@[simp] theorem pushAction_len (a : HostAction) (s : State) : (pushAction a s).len = s.len := rfl
@[simp] theorem pushAction_wval (a : HostAction) (s : State) : (pushAction a s).wval = s.wval := rfl
@[simp] theorem pushAction_pl (a : HostAction) (s : State) : (pushAction a s).pl = s.pl := rfl
@[simp] theorem pushAction_sec (a : HostAction) (s : State) : (pushAction a s).sec = s.sec := rfl
@[simp] theorem pushAction_rx (a : HostAction) (s : State) : (pushAction a s).rx = s.rx := rfl
@[simp] theorem pushAction_tx (a : HostAction) (s : State) : (pushAction a s).tx = s.tx := rfl
@[simp] theorem pushAction_txv (a : HostAction) (s : State) : (pushAction a s).txv = s.txv := rfl
@[simp] theorem pushAction_pay (a : HostAction) (s : State) : (pushAction a s).pay = s.pay := rfl
@[simp] theorem pushAction_payv (a : HostAction) (s : State) : (pushAction a s).payv = s.payv := rfl
@[simp] theorem pushAction_sum (a : HostAction) (s : State) : (pushAction a s).sum = s.sum := rfl
@[simp] theorem pushAction_sumv (a : HostAction) (s : State) : (pushAction a s).sumv = s.sumv := rfl
@[simp] theorem pushAction_st (a : HostAction) (s : State) : (pushAction a s).st = s.st := rfl
@[simp] theorem pushAction_stv (a : HostAction) (s : State) : (pushAction a s).stv = s.stv := rfl
@[simp] theorem pushAction_devId (a : HostAction) (s : State) : (pushAction a s).devId = s.devId := rfl
@[simp] theorem pushAction_idv (a : HostAction) (s : State) : (pushAction a s).idv = s.idv := rfl
@[simp] theorem pushAction_kidx (a : HostAction) (s : State) : (pushAction a s).kidx = s.kidx := rfl
@[simp] theorem pushAction_callv (a : HostAction) (s : State) : (pushAction a s).callv = s.callv := rfl
@[simp] theorem pushAction_opw (a : HostAction) (s : State) : (pushAction a s).opw = s.opw := rfl
@[simp] theorem pushAction_err (a : HostAction) (s : State) : (pushAction a s).err = s.err := rfl
@[simp] theorem pushAction_estk (a : HostAction) (s : State) : (pushAction a s).estk = s.estk := rfl
@[simp] theorem pushAction_script (a : HostAction) (s : State) : (pushAction a s).env.script = a :: s.env.script := rfl
@[simp] theorem pushAction_inbox (a : HostAction) (s : State) : (pushAction a s).env.inbox = s.env.inbox := rfl
@[simp] theorem pushAction_events (a : HostAction) (s : State) : (pushAction a s).env.events = s.env.events := rfl
@[simp] theorem pushAction_hostErr (a : HostAction) (s : State) : (pushAction a s).env.hostErr = s.env.hostErr := rfl
@[simp] theorem pushAction_draws (a : HostAction) (s : State) : (pushAction a s).env.draws = s.env.draws := rfl

end Sys2Proof.Machine
end

