-- ==== Sys2Proof/Laws/Codec.lean ====
section
/-! SUPPORT. What validation and checksum verification can do, said once. -/

namespace Sys2Proof.Machine

/-- An empty response (R141). -/
@[simp] theorem validateResponse_nil (c : Byte) (n : Nat) :
    validateResponse c [] n = .error .lengthMismatch := rfl

/-- A wrong first byte (R141). -/
theorem validateResponse_wrong_ack {c a : Byte} (d : List Byte) (n : Nat) (h : a ≠ ackByte c) :
    validateResponse c (a :: d) n = .error .acknowledgementMismatch := by
  simp [validateResponse, h]

/-- A right first byte and a wrong length (R141). -/
theorem validateResponse_wrong_length (c : Byte) {d : List Byte} {n : Nat} (h : d.length + 1 ≠ n) :
    validateResponse c (ackByte c :: d) n = .error .lengthMismatch := by
  simp [validateResponse, h]

/-- A response that validates (R141). -/
theorem validateResponse_ok (c : Byte) {d : List Byte} {n : Nat} (h : d.length + 1 = n) :
    validateResponse c (ackByte c :: d) n = .ok d := by
  simp [validateResponse, h]

/-- Everything validation can answer: the payload of a response with the right first byte and length, or one of
the two kinds. -/
theorem validateResponse_cases (c : Byte) (r : List Byte) (n : Nat) :
    (∃ d, r = ackByte c :: d ∧ d.length + 1 = n ∧ validateResponse c r n = .ok d)
    ∨ validateResponse c r n = .error .acknowledgementMismatch
    ∨ validateResponse c r n = .error .lengthMismatch := by
  rcases r with _ | ⟨a, d⟩
  · exact .inr (.inr rfl)
  · by_cases ha : a = ackByte c
    · subst ha
      by_cases hn : d.length + 1 = n
      · exact .inl ⟨d, rfl, hn, validateResponse_ok c hn⟩
      · exact .inr (.inr (validateResponse_wrong_length c hn))
    · exact .inr (.inl (validateResponse_wrong_ack d n ha))

/-- Everything the validate step can do: the rest runs on the delivered payload, or one of the two kinds is
raised. -/
theorem validateThen_cases (rest : State → State) (s : State) :
    (∃ d, s.rx = ackByte s.cmd :: d ∧ d.length + 1 = s.explen.toNat
        ∧ validateThen rest s = rest (deliverPayload d s))
    ∨ validateThen rest s = raise .acknowledgementMismatch s
    ∨ validateThen rest s = raise .lengthMismatch s := by
  unfold validateThen
  rcases validateResponse_cases s.cmd s.rx s.explen.toNat with ⟨d, h1, h2, h3⟩ | h | h
  · exact .inl ⟨d, h1, h2, by rw [h3]⟩
  · exact .inr (.inl (by rw [h]))
  · exact .inr (.inr (by rw [h]))

/-- The validate step on a response that validates. -/
theorem validateThen_ok (rest : State → State) {s : State} {d : List Byte}
    (h : s.rx = ackByte s.cmd :: d) (hn : s.explen.toNat = d.length + 1) :
    validateThen rest s = rest (deliverPayload d s) := by
  unfold validateThen
  rw [h, validateResponse_ok _ hn.symm]

/-- Checksum verification on a payload with a right trailing byte (R133, R134). -/
theorem verifyPayload_ok {s : State} {d : List Byte} (h : s.pay = d ++ [checksum d s.sec]) :
    verifyPayload s = { setSum (checksum d s.sec) s with pay := d } := by
  simp [verifyPayload, h]

/-- Checksum verification on a payload with a wrong trailing byte (R133, R134). -/
theorem verifyPayload_wrong {s : State} {d : List Byte} {c : Byte} (h : s.pay = d ++ [c])
    (hc : c ≠ checksum d s.sec) :
    verifyPayload s = raise .checksumError (dropPayload (setSum (checksum d s.sec) s)) := by
  have hc' : checksum d s.sec ≠ c := fun h => hc h.symm
  simp [verifyPayload, h, hc']

/-- Checksum verification of an empty payload (R133). -/
theorem verifyPayload_empty {s : State} (h : s.pay = []) :
    verifyPayload s = raise .checksumError (dropPayload s) := by
  simp [verifyPayload, h]

/-- Everything checksum verification can do. -/
theorem verifyPayload_cases (s : State) :
    (s.pay = [] ∧ verifyPayload s = raise .checksumError (dropPayload s))
    ∨ (∃ d, s.pay = d ++ [checksum d s.sec]
        ∧ verifyPayload s = { setSum (checksum d s.sec) s with pay := d })
    ∨ (∃ d c, s.pay = d ++ [c] ∧ c ≠ checksum d s.sec
        ∧ verifyPayload s = raise .checksumError (dropPayload (setSum (checksum d s.sec) s))) := by
  rcases List.eq_nil_or_concat s.pay with h | ⟨d, c, h⟩
  · exact .inl ⟨h, verifyPayload_empty h⟩
  · by_cases hc : c = checksum d s.sec
    · subst hc
      exact .inr (.inl ⟨d, by simpa using h, verifyPayload_ok (by simpa using h)⟩)
    · exact .inr (.inr ⟨d, c, by simpa using h, hc, verifyPayload_wrong (by simpa using h) hc⟩)

/-- Everything the STATUS tail can do (R180). -/
theorem unpackStatus_cases (s : State) :
    (s.pay.length = 11 ∧ unpackStatus s = { s with st := statusFields s.pay, stv := true })
    ∨ (s.pay.length ≠ 11 ∧ unpackStatus s = raise .bufferSizeMismatch s) := by
  by_cases h : s.pay.length = 11
  · exact .inl ⟨h, by simp [unpackStatus, decodeStatus, Config.statusLen, h]⟩
  · exact .inr ⟨h, by simp [unpackStatus, decodeStatus, Config.statusLen, h]⟩

/-- Everything the DEVID tail can do (R180). -/
theorem unpackDevId_cases (s : State) :
    (s.pay.length = 9 ∧ unpackDevId s = { s with devId := devIdFields s.pay, idv := true })
    ∨ (s.pay.length ≠ 9 ∧ unpackDevId s = raise .bufferSizeMismatch s) := by
  by_cases h : s.pay.length = 9
  · exact .inl ⟨h, by simp [unpackDevId, decodeDeviceId, Config.devIdLen, h]⟩
  · exact .inr ⟨h, by simp [unpackDevId, decodeDeviceId, Config.devIdLen, h]⟩

/-- Everything a response consumer can do (R180): its sequence test fails, validation raises, or its tail runs on
the delivered payload. -/
theorem consume_cases (k : Fin 9) (tail : State → State) (s : State) :
    (¬ (s.callv = true ∧ s.kidx = indexBits k) ∧ consume k tail s = raise .sequenceError (startOp s))
    ∨ (s.callv = true ∧ s.kidx = indexBits k
        ∧ (consume k tail s = raise .acknowledgementMismatch (dropPayload (invalidateDerived (startOp s)))
          ∨ consume k tail s = raise .lengthMismatch (dropPayload (invalidateDerived (startOp s)))
          ∨ ∃ d, s.rx = ackByte s.cmd :: d ∧ d.length + 1 = s.explen.toNat
              ∧ consume k tail s
                = tail (deliverPayload d (dropPayload (invalidateDerived (startOp s)))))) := by
  by_cases h : s.callv = true ∧ s.kidx = indexBits k
  · refine .inr ⟨h.1, h.2, ?_⟩
    have hc : consume k tail s = validateThen tail (dropPayload (invalidateDerived (startOp s))) := by
      simp [consume, h]
    rcases validateThen_cases tail (dropPayload (invalidateDerived (startOp s))) with ⟨d, h1, h2, h3⟩ | h3 | h3
    · exact .inr (.inr ⟨d, h1, h2, hc.trans h3⟩)
    · exact .inl (hc.trans h3)
    · exact .inr (.inl (hc.trans h3))
  · exact .inl ⟨h, by simp only [consume, if_neg h]⟩

end Sys2Proof.Machine
end

