-- ==== Sys2Proof/Laws/Exec.lean ====
section
/-! SUPPORT. The shape of a step: every instruction gives a next state, every wire frame is one transaction. -/

namespace Sys2Proof.Machine

/-- No arm of `exec` stops (R13). -/
theorem exec_next (i : Instr) (s : State) : ∃ t, exec i s = .next t := by
  cases i <;> exact ⟨_, rfl⟩

/-- A wire frame is one transaction with its own bytes and its response length (R99 to R107). -/
theorem exec_wire_eq_transact {i : Instr} {n : Nat} (h : responseLength i = some n) (s : State) :
    exec i s = .next (transact (encode i) n s) := by
  cases i <;> simp only [responseLength, Option.some.injEq, reduceCtorEq] at h <;> subst h <;> rfl

/-- Everything a transaction does: an answer goes into `RX` or is recorded as a failure; no other register of
the block changes. -/
theorem transact_spec (f : List Byte) (n : Nat) (s : State) :
    ∃ t, transact f n s = t
      ∧ t = { s with
          rx := (match nextAnswer f n s with | some r => r.take Config.rxCap | none => s.rx), env := t.env }
      ∧ t.env.events = s.env.events ++ [.exchange f n (nextAnswer f n s)]
      ∧ t.env.hostErr = (if nextAnswer f n s = none then 1 else 0)
      ∧ t.env.script = s.env.script ∧ t.env.inbox = s.env.inbox.tail := by
  refine ⟨_, rfl, ?_⟩
  unfold transact
  cases h : nextAnswer f n s <;> rcases hi : s.env.inbox with _ | ⟨a, l⟩ <;>
    simp [consumeAnswer, hi, draw, record, setHostErr, loadRx, ErrKind.code]

/-- A transaction with an answer to come. -/
theorem transact_answer {s : State} {r : List Byte} {more : List (Option (List Byte))}
    (h : s.env.inbox = some r :: more) (f : List Byte) (n : Nat) :
    transact f n s = { s with
      rx := r.take 258
      env := { s.env with
        inbox := more, hostErr := 0, events := s.env.events ++ [.exchange f n (some r)] } } := by
  unfold transact nextAnswer consumeAnswer
  rw [h]
  rfl

/-- A transaction with a failure to come. -/
theorem transact_failure {s : State} {more : List (Option (List Byte))}
    (h : s.env.inbox = none :: more) (f : List Byte) (n : Nat) :
    transact f n s = { s with
      env := { s.env with inbox := more, hostErr := 1, events := s.env.events ++ [.exchange f n none] } } := by
  unfold transact nextAnswer consumeAnswer
  rw [h]
  rfl

/-- The bytes of a frame read as command k are its own. -/
theorem encodeWith_frameInstr {codes : Fin 9 → Byte} {k : Fin 9} {p : List Byte} {i : Instr}
    (h : frameInstr k p = some i) : encodeWith codes i = codes k :: p := by
  have bit : ∀ (a b : Byte) (j : Nat),
      (a ++ b : BitVec 16).getLsbD j = if j < 8 then b.getLsbD j else a.getLsbD (j - 8) := by
    intro a b j
    exact BitVec.getLsbD_append
  have hi : ∀ a b : Byte, (a ++ b : BitVec 16).extractLsb' 8 8 = a := by
    intro a b
    ext j hj
    simp [bit, BitVec.getLsbD_eq_getElem, hj]
  have lo : ∀ a b : Byte, (a ++ b : BitVec 16).extractLsb' 0 8 = b := by
    intro a b
    ext j hj
    simp [bit, BitVec.getLsbD_eq_getElem, hj]
  unfold frameInstr at h
  split at h <;> (try split_ifs at h) <;> simp at h <;> subst_vars <;>
    first | rfl | (simp only [encodeWith, hi, lo])

/-- `XCHG` is one transaction of `TX` and `EXPLEN`, whichever frame it is read as (R115, R112; log 16). -/
theorem exchange_eq_transact (s : State) : exchange s = .next (transact s.tx s.explen.toNat s) := by
  unfold exchange decodeFrame decodeFrameWith
  cases ht : s.tx with
  | nil => rfl
  | cons c p =>
    simp only []
    cases hf : commandIndices.findSome? (frameAs Config.cmdCode c p s.explen.toNat) with
    | none => rfl
    | some i =>
      obtain ⟨k, -, hk⟩ := List.exists_of_findSome?_eq_some hf
      unfold frameAs at hk
      split_ifs at hk with hc
      split at hk
      · rename_i j hj
        split_ifs at hk with hr
        obtain rfl := Option.some.inj hk
        show exec j s = _
        rw [exec_wire_eq_transact hr, encode, encodeWith_frameInstr hj, hc]
      · exact absurd hk (by simp)

/-- A step does the host's next action. -/
theorem step_cons {s : State} {a : HostAction} {rest : List HostAction} (h : s.env.script = a :: rest) :
    step s = hostAction a (setScript rest s) := by
  simp [step, takeAction, h]

/-- A run whose first step goes on. -/
theorem run_succ {s t : State} (h : step s = .next t) (n : Nat) : core.run (n + 1) s = core.run n t := by
  have e := Host.Core.run.eq_def core (n + 1) s
  simp only [show core.step s = .next t from h] at e
  exact e

/-- With no action to come the block holds its registers. -/
theorem step_idle {s : State} (h : s.env.script = []) : step s = .next s := by
  simp [step, takeAction, h]

/-- A write of `OPW` requests the operation. -/
@[simp] theorem hostAction_wr_opw (v : Nat) (s : State) :
    hostAction (.wr .opw v) s = requestOperation (BitVec.ofNat 8 v) s := rfl

/-- The next fetched word runs as the next step. -/
theorem step_withFetchWord (s : State) (nbits w : Nat) :
    step (s.withFetchWord nbits w) = exec (decodeWord (BitVec.ofNat 8 w)) { s with opw := BitVec.ofNat 8 w } := by
  have h : step (s.withFetchWord nbits w)
      = requestOperation (BitVec.ofNat 8 (BitVec.ofNat 8 w).toNat) s := rfl
  rw [h, BitVec.ofNat_toNat, BitVec.setWidth_eq]
  rfl

end Sys2Proof.Machine
end

