-- ==== Sys2Proof/Laws/Memory.lean ====
section
/-! SUPPORT. The buffers: every operation on them keeps them within their capacities, and reads see writes. -/

namespace Sys2Proof.Machine

/-- `Memory.wf` as bounds on the five lengths (R8). -/
theorem Memory.wf_iff (s : State) :
    Memory.wf s = true ↔ s.pl.length ≤ 3 ∧ s.sec.length ≤ 3 ∧ s.tx.length ≤ 4 ∧ s.rx.length ≤ 258
      ∧ s.pay.length ≤ 257 := by
  simp only [Memory.wf, Bool.and_eq_true, decide_eq_true_eq, and_assoc]
  exact Iff.rfl

/-- The reset state has well-formed buffers (R41). -/
theorem Memory.wf_reset : Memory.wf State.reset = true := by decide

/-- Storing a sequence that fits keeps the buffers well formed. -/
theorem Memory.wf_setBuffer {b : Space} {v : List Byte} {s : State} (h : Memory.wf s = true)
    (hv : v.length ≤ b.cap) : Memory.wf (setBuffer b v s) = true := by
  rw [Memory.wf_iff] at h ⊢
  cases b <;> simp_all [setBuffer, Space.cap, Config.plCap, Config.secCap, Config.txCap, Config.rxCap,
    Config.payCap]

/-- Overwriting keeps the length. -/
@[simp] theorem overwrite_length (l : List Byte) (i : Nat) (v : List Byte) :
    (overwrite l i v).length = l.length := by
  simp [overwrite]

/-- `MemWrite` keeps the buffers well formed (R76). -/
theorem Memory.wf_memWrite {b : Space} {i : Nat} {v : List Byte} {s t : State} (h : Memory.wf s = true)
    (ht : memWrite b i v s = some t) : Memory.wf t = true := by
  unfold memWrite at ht
  split at ht
  · obtain rfl := Option.some.inj ht
    refine Memory.wf_setBuffer h ?_
    rw [overwrite_length]
    rw [Memory.wf_iff] at h
    cases b <;> simp [buffer, Space.cap, Config.plCap, Config.secCap, Config.txCap, Config.rxCap,
      Config.payCap] <;> omega
  · exact absurd ht (by simp)

/-- `LD.RX` keeps the buffers well formed, whatever it loads (R24, R38). -/
theorem Memory.wf_loadRx {s : State} (v : List Byte) (h : Memory.wf s = true) :
    Memory.wf (loadRx v s) = true :=
  Memory.wf_setBuffer (b := .rx) h (by simp [Space.cap])

/-- `LD.PL` of a sequence that fits (R38). -/
theorem Memory.wf_loadPl {s : State} {v : List Byte} (h : Memory.wf s = true) (hv : v.length ≤ Config.plCap) :
    Memory.wf (loadPl v s) = true := by
  rw [Memory.wf_iff] at h ⊢
  exact ⟨hv, h.2⟩

/-- `LD.SEC` of a sequence that fits (R38). -/
theorem Memory.wf_loadSec {s : State} {v : List Byte} (h : Memory.wf s = true) (hv : v.length ≤ Config.secCap) :
    Memory.wf (loadSec v s) = true := by
  rw [Memory.wf_iff] at h ⊢
  exact ⟨h.1, hv, h.2.2⟩

/-- `LD.PAY` of a sequence that fits (R38). -/
theorem Memory.wf_loadPay {s : State} {v : List Byte} (h : Memory.wf s = true) (hv : v.length ≤ Config.payCap) :
    Memory.wf (loadPay v s) = true :=
  Memory.wf_setBuffer (b := .pay) h hv

/-- Delivering the payload of a validated response fits `PAY`: it is one byte shorter than `RX` (R143, R180). -/
theorem Memory.wf_deliverPayload {s : State} {c : Byte} {d : List Byte} (h : Memory.wf s = true)
    (hd : s.rx = c :: d) : Memory.wf (deliverPayload d s) = true := by
  refine Memory.wf_setBuffer (b := .pay) h ?_
  rw [Memory.wf_iff, hd] at h
  simp only [List.length_cons] at h
  simp only [Space.cap, Config.payCap]
  omega

/-- A frame fits `TX`: it is one byte longer than `PL` (R142). -/
theorem Memory.wf_makeFrame {s : State} (h : Memory.wf s = true) : Memory.wf (makeFrame s) = true := by
  refine Memory.wf_setBuffer (b := .tx) h ?_
  rw [Memory.wf_iff] at h
  simp only [encodeRequest, List.length_cons, Space.cap, Config.txCap]
  omega

/-- Verification only shortens `PAY` (R133, R180). -/
theorem Memory.wf_verifyPayload {s : State} (h : Memory.wf s = true) : Memory.wf (verifyPayload s) = true := by
  rw [Memory.wf_iff] at h ⊢
  rcases verifyPayload_cases s with ⟨_, hr⟩ | ⟨d, hd, hr⟩ | ⟨d, c, hd, _, hr⟩ <;> rw [hr] <;> (simp_all; try omega)

end Sys2Proof.Machine
end

