-- ==== Sys2Proof/Laws/Shapes.lean ====
section
/-! SUPPORT. The composed updates as one update each: what a builder, a refused builder, a refused response and a
delivered payload leave in the state. Cite these rather than unfold the layers (that is slow). -/

namespace Sys2Proof.Machine

/-- A builder without a precondition, whole (R160). -/
theorem buildRequest_eq (k : Fin 9) (p q : List Byte) (n : Len9) (s : State) :
    buildRequest k p q n s =
      { s with err := 0, cmd := Config.cmdCode k, pl := p, sec := q, explen := n
               tx := Config.cmdCode k :: p, txv := true, kidx := indexBits k, callv := true
               rx := [], pay := [], payv := false, sumv := false, stv := false, idv := false } := by
  simp only [buildRequest, openCall, makeFrame, beginCall, dropPayload, invalidateDerived, startOp,
    encodeRequest]

/-- A builder that raises, whole (R160). -/
theorem raise_beginCall_eq (k : ErrKind) (s : State) :
    raise k (beginCall (startOp s)) =
      { s with err := k.code, estk := s.estk ||| stickyBit k.code, tx := [], txv := false, callv := false
               rx := [], pay := [], payv := false, sumv := false, stv := false, idv := false } := by
  simp only [raise, beginCall, dropPayload, invalidateDerived, startOp]

/-- A raise in or before the validate step of `VAL` or a consumer, whole (R143, R180). -/
theorem raise_dropped_eq (k : ErrKind) (s : State) :
    raise k (dropPayload (invalidateDerived (startOp s))) =
      { s with err := k.code, estk := s.estk ||| stickyBit k.code, pay := [], payv := false
               sumv := false, stv := false, idv := false } := by
  simp only [raise, dropPayload, invalidateDerived, startOp]

/-- A validated response before any tail, whole (R143, R180). -/
theorem delivered_eq (d : List Byte) (s : State) :
    deliverPayload d (dropPayload (invalidateDerived (startOp s))) =
      { s with err := 0, pay := d, payv := true, sumv := false, stv := false, idv := false } := by
  simp only [deliverPayload, dropPayload, invalidateDerived, startOp]

/-- A raise with the derived valid bits cleared, whole (R133). -/
theorem raise_invalidated_eq (k : ErrKind) (s : State) :
    raise k (invalidateDerived (startOp s)) =
      { s with err := k.code, estk := s.estk ||| stickyBit k.code, sumv := false, stv := false, idv := false } := by
  simp only [raise, invalidateDerived, startOp]

/-- A raise and nothing else, whole (R180, R196). -/
theorem raise_startOp_eq (k : ErrKind) (s : State) :
    raise k (startOp s) = { s with err := k.code, estk := s.estk ||| stickyBit k.code } := by
  simp only [raise, startOp]

/-- The raise of a `ChecksumError` from a computed sum, whole (R133, R180). -/
theorem raise_wrong_sum_eq (c : Byte) (s : State) :
    raise .checksumError (dropPayload (setSum c s)) =
      { s with err := 4, estk := s.estk ||| 0x08, pay := [], payv := false, sum := c, sumv := true } := by
  have h : stickyBit 4 = 0x08 := by decide
  simp only [raise, dropPayload, setSum, ErrKind.code, h]

/-- The codes and sticky bits of the kinds the block raises (R200). -/
theorem code_stickyBit (k : ErrKind) :
    (k.code, stickyBit k.code) =
      match k with
      | .transportError => (1, 0x01)
      | .acknowledgementMismatch => (2, 0x02)
      | .lengthMismatch => (3, 0x04)
      | .checksumError => (4, 0x08)
      | .bufferSizeMismatch => (5, 0x10)
      | .invalidArgument => (6, 0x20)
      | .illegalOperation => (7, 0x40)
      | .sequenceError => (8, 0x80) := by
  cases k <;> decide

end Sys2Proof.Machine
end

