-- ==== Sys2Proof/Laws/Operations.lean ====
section
/-! SUPPORT. Everything an operation can do, said once: which shared operation each instruction is, and what the
tails of the response consumers may change. -/

namespace Sys2Proof.Machine

/-- The nine request builders. -/
def builders : List Instr := [.rqPing, .rqReset, .rqInit, .rqGetst, .rqExit, .rqRdfl, .rqRdid, .rqWrps, .rqRdps]

/-- The nine response consumers. -/
def consumers : List Instr := [.rsPing, .rsReset, .rsInit, .rsGetst, .rsExit, .rsRdfl, .rsRdid, .rsWrps, .rsRdps]

/-- The four tails of R180. -/
def IsTail (tail : State → State) : Prop :=
  tail = id ∨ tail = verifyPayload ∨ tail = unpackStatus ∨ tail = unpackDevId

/-- What an operation does, by its kind. -/
inductive OperationCase (i : Instr) (s t : State) : Prop
  | csum : i = .csum → t = csum s → OperationCase i s t
  | enc : i = .enc → t = makeFrame (startOp s) → OperationCase i s t
  | val : i = .val → t = val s → OperationCase i s t
  | csv : i = .csv → t = csv s → OperationCase i s t
  | dst : i = .dst → t = dst s → OperationCase i s t
  | did : i = .did → t = did s → OperationCase i s t
  | clre : i = .clre → t = { startOp s with estk := 0x00 } → OperationCase i s t
  | reserved (w : Byte) : i = .reserved w → t = raise .illegalOperation (startOp s) → OperationCase i s t
  | built (k : Fin 9) (p q : List Byte) (n : Len9) : i ∈ builders → contextOf k p q n → p.length ≤ 3 →
      q.length ≤ 3 → t = buildRequest k p q n s → OperationCase i s t
  | tooLong : i = .rqRdfl → Config.maxReadLen < s.len →
      t = raise .invalidArgument (beginCall (startOp s)) → OperationCase i s t
  | consumed (k : Fin 9) (tail : State → State) : i ∈ consumers → IsTail tail → t = consume k tail s →
      OperationCase i s t

/-- A next state determines the state. -/
theorem eq_of_next {s t : State}
    (h : (Host.Outcome.next s : Host.Outcome State Fault Refusal) = .next t) : t = s := by
  injection h with h
  exact h.symm

/-- Every operation is one of the cases. -/
theorem exec_operation_cases {i : Instr} {s t : State} (ho : isOperation i = true) (h : exec i s = .next t) :
    OperationCase i s t := by
  cases i <;> first | (exfalso; revert ho; simp [isOperation, responseLength]; done) | skip
  all_goals have h := eq_of_next h
  · exact .csum rfl h
  · exact .enc rfl h
  · exact .val rfl h
  · exact .csv rfl h
  · exact .dst rfl h
  · exact .did rfl h
  · exact .clre rfl h
  · exact .built 0 _ _ _ (by simp [builders]) (by simp [contextOf]) (by simp) (by simp) h
  · exact .built 1 _ _ _ (by simp [builders]) (by simp [contextOf]) (by simp) (by simp) h
  · exact .built 2 _ _ _ (by simp [builders]) (by simp [contextOf]) (by simp) (by simp) h
  · exact .built 3 _ _ _ (by simp [builders]) (by simp [contextOf]) (by simp) (by simp) h
  · exact .built 4 _ _ _ (by simp [builders]) (by simp [contextOf]) (by simp) (by simp) h
  · unfold buildReadFlash buildReadFlashWith at h
    split at h
    · rename_i hl
      exact .built 5 _ _ _ (by simp [builders]) (by simp [contextOf, hl]) (by simp) (by simp) h
    · rename_i hl
      exact .tooLong rfl (BitVec.not_le.mp hl) h
  · exact .built 6 _ _ _ (by simp [builders]) (by simp [contextOf]) (by simp) (by simp) h
  · exact .built 7 _ _ _ (by simp [builders]) (by simp [contextOf]) (by simp) (by simp) h
  · exact .built 8 _ _ _ (by simp [builders]) (by simp [contextOf]) (by simp) (by simp) h
  · exact .consumed 0 id (by simp [consumers]) (.inl rfl) h
  · exact .consumed 1 id (by simp [consumers]) (.inl rfl) h
  · exact .consumed 2 id (by simp [consumers]) (.inl rfl) h
  · exact .consumed 3 _ (by simp [consumers]) (.inr (.inr (.inl rfl))) h
  · exact .consumed 4 id (by simp [consumers]) (.inl rfl) h
  · exact .consumed 5 _ (by simp [consumers]) (.inr (.inl rfl)) h
  · exact .consumed 6 _ (by simp [consumers]) (.inr (.inr (.inr rfl))) h
  · exact .consumed 7 _ (by simp [consumers]) (.inr (.inl rfl)) h
  · exact .consumed 8 _ (by simp [consumers]) (.inr (.inl rfl)) h
  · exact .reserved _ rfl h

/-- A consumer whose call is open runs its validate step (R180). -/
theorem consume_open {k : Fin 9} {tail : State → State} {s : State} (h1 : s.callv = true)
    (h2 : s.kidx = indexBits k) :
    consume k tail s = validateThen tail (dropPayload (invalidateDerived (startOp s))) := by
  simp only [consume, h1, h2, and_self, if_true]

/-- A consumer without its open call raises `SequenceError` and nothing else (R180). -/
theorem consume_closed {k : Fin 9} {tail : State → State} {s : State}
    (h : ¬ (s.callv = true ∧ s.kidx = indexBits k)) : consume k tail s = raise .sequenceError (startOp s) := by
  simp only [consume, if_neg h]

/-- All that a tail may change (R180). -/
theorem tail_frame {tail : State → State} (h : IsTail tail) (u : State) :
    tail u = { u with
      pay := (tail u).pay, payv := (tail u).payv, sum := (tail u).sum, sumv := (tail u).sumv
      st := (tail u).st, stv := (tail u).stv, devId := (tail u).devId, idv := (tail u).idv
      err := (tail u).err, estk := (tail u).estk } := by
  rcases h with rfl | rfl | rfl | rfl
  · rfl
  · rcases verifyPayload_cases u with ⟨_, hr⟩ | ⟨d, _, hr⟩ | ⟨d, c, _, _, hr⟩ <;> rw [hr] <;> rfl
  · rcases unpackStatus_cases u with ⟨_, hr⟩ | ⟨_, hr⟩ <;> rw [hr] <;> rfl
  · rcases unpackDevId_cases u with ⟨_, hr⟩ | ⟨_, hr⟩ <;> rw [hr] <;> rfl

/-- How a tail ends: normally, or with one of its two kinds recorded (R180, R211). -/
theorem tail_recorded {tail : State → State} (h : IsTail tail) (u : State) :
    ((tail u).err = u.err ∧ (tail u).estk = u.estk)
    ∨ ((tail u).err = 4 ∧ (tail u).estk = u.estk ||| 0x08)
    ∨ ((tail u).err = 5 ∧ (tail u).estk = u.estk ||| 0x10) := by
  rcases h with rfl | rfl | rfl | rfl
  · exact .inl ⟨rfl, rfl⟩
  · rcases verifyPayload_cases u with ⟨_, hr⟩ | ⟨d, _, hr⟩ | ⟨d, c, _, _, hr⟩ <;> rw [hr]
    · exact .inr (.inl ⟨rfl, rfl⟩)
    · exact .inl ⟨rfl, rfl⟩
    · exact .inr (.inl ⟨rfl, rfl⟩)
  · rcases unpackStatus_cases u with ⟨_, hr⟩ | ⟨_, hr⟩ <;> rw [hr]
    · exact .inl ⟨rfl, rfl⟩
    · exact .inr (.inr ⟨rfl, rfl⟩)
  · rcases unpackDevId_cases u with ⟨_, hr⟩ | ⟨_, hr⟩ <;> rw [hr]
    · exact .inl ⟨rfl, rfl⟩
    · exact .inr (.inr ⟨rfl, rfl⟩)

/-- A load that fits is done (R38). -/
theorem loadIfFits_next {cap : Nat} {v : List Byte} {load : List Byte → State → State} {s : State}
    (h : v.length ≤ cap) : loadIfFits cap v load s = .next (load v s) := if_pos h

/-- A load that does not fit is refused (R38; log 11). -/
theorem loadIfFits_refused {cap : Nat} {v : List Byte} {load : List Byte → State → State} {s : State}
    (h : cap < v.length) : loadIfFits cap v load s = .refused .loadTooLong := if_neg (by omega)

/-- A byte of a buffer is the list's element (R61). -/
theorem bufferByte_eq (b : Space) (i : Nat) (s : State) :
    bufferByte b i s = (buffer b s)[i]?.map (BitVec.setWidth 16) := by
  unfold bufferByte memRead
  split
  · have hi : i < (buffer b s).length := by omega
    simp [byteAt, hi]
  · have hi : ¬ i < (buffer b s).length := by omega
    simp
    omega

/-- A free value fits its register (R40). -/
theorem freeValue_lt (r : Reg) (n : Nat) : (freeValue r n).toNat < 2 ^ r.width := by
  unfold freeValue
  have h := ((Config.unspecified n).setWidth r.width).isLt
  rw [BitVec.toNat_setWidth]
  exact lt_of_le_of_lt (Nat.mod_le _ _) h

/-- A buffer reads as it was set. -/
@[simp] theorem buffer_setBuffer (b : Space) (v : List Byte) (s : State) : buffer b (setBuffer b v s) = v := by
  cases b <;> rfl

end Sys2Proof.Machine
end

