-- ==== Sys2Proof/Laws/PerInstr.lean ====
section
/-! SUPPORT. The family of statements made per instruction: the size of an encoding. An operation word is one
byte (R91); a request frame is one command byte and 0 to 3 payload bytes (R66, R95). -/

namespace Sys2Proof.Laws.EncodedSize

/-- The encoding of an instruction has 1 to 4 bytes, and exactly one byte if it is an operation word. -/
def Statement (i : Instr) : Prop :=
  ∀ codes : Fin 9 → Byte, 1 ≤ (encodeWith codes i).length ∧ (encodeWith codes i).length ≤ 4
    ∧ (isOperation i = true → (encodeWith codes i).length = 1)

theorem csum : Statement .csum := by
  intro codes; simp [encodeWith, isOperation, responseLength]

theorem enc : Statement .enc := by
  intro codes; simp [encodeWith, isOperation, responseLength]

theorem val : Statement .val := by
  intro codes; simp [encodeWith, isOperation, responseLength]

theorem csv : Statement .csv := by
  intro codes; simp [encodeWith, isOperation, responseLength]

theorem dst : Statement .dst := by
  intro codes; simp [encodeWith, isOperation, responseLength]

theorem did : Statement .did := by
  intro codes; simp [encodeWith, isOperation, responseLength]

theorem clre : Statement .clre := by
  intro codes; simp [encodeWith, isOperation, responseLength]

theorem rqPing : Statement .rqPing := by
  intro codes; simp [encodeWith, isOperation, responseLength]

theorem rqReset : Statement .rqReset := by
  intro codes; simp [encodeWith, isOperation, responseLength]

theorem rqInit : Statement .rqInit := by
  intro codes; simp [encodeWith, isOperation, responseLength]

theorem rqGetst : Statement .rqGetst := by
  intro codes; simp [encodeWith, isOperation, responseLength]

theorem rqExit : Statement .rqExit := by
  intro codes; simp [encodeWith, isOperation, responseLength]

theorem rqRdfl : Statement .rqRdfl := by
  intro codes; simp [encodeWith, isOperation, responseLength]

theorem rqRdid : Statement .rqRdid := by
  intro codes; simp [encodeWith, isOperation, responseLength]

theorem rqWrps : Statement .rqWrps := by
  intro codes; simp [encodeWith, isOperation, responseLength]

theorem rqRdps : Statement .rqRdps := by
  intro codes; simp [encodeWith, isOperation, responseLength]

theorem rsPing : Statement .rsPing := by
  intro codes; simp [encodeWith, isOperation, responseLength]

theorem rsReset : Statement .rsReset := by
  intro codes; simp [encodeWith, isOperation, responseLength]

theorem rsInit : Statement .rsInit := by
  intro codes; simp [encodeWith, isOperation, responseLength]

theorem rsGetst : Statement .rsGetst := by
  intro codes; simp [encodeWith, isOperation, responseLength]

theorem rsExit : Statement .rsExit := by
  intro codes; simp [encodeWith, isOperation, responseLength]

theorem rsRdfl : Statement .rsRdfl := by
  intro codes; simp [encodeWith, isOperation, responseLength]

theorem rsRdid : Statement .rsRdid := by
  intro codes; simp [encodeWith, isOperation, responseLength]

theorem rsWrps : Statement .rsWrps := by
  intro codes; simp [encodeWith, isOperation, responseLength]

theorem rsRdps : Statement .rsRdps := by
  intro codes; simp [encodeWith, isOperation, responseLength]

theorem reserved (w : Byte) : Statement (.reserved w) := by
  intro codes; simp [encodeWith, isOperation, responseLength]

theorem wirePing : Statement .wirePing := by
  intro codes; simp [encodeWith, isOperation, responseLength]

theorem wireReset : Statement .wireReset := by
  intro codes; simp [encodeWith, isOperation, responseLength]

theorem wireInit : Statement .wireInit := by
  intro codes; simp [encodeWith, isOperation, responseLength]

theorem wireGetst : Statement .wireGetst := by
  intro codes; simp [encodeWith, isOperation, responseLength]

theorem wireExit : Statement .wireExit := by
  intro codes; simp [encodeWith, isOperation, responseLength]

theorem wireRdfl (addr : Addr) (len : Byte) : Statement (.wireRdfl addr len) := by
  intro codes; simp [encodeWith, isOperation, responseLength]

theorem wireRdid : Statement .wireRdid := by
  intro codes; simp [encodeWith, isOperation, responseLength]

theorem wireWrps (addr : Addr) (value : Byte) : Statement (.wireWrps addr value) := by
  intro codes; simp [encodeWith, isOperation, responseLength]

theorem wireRdps (addr : Addr) : Statement (.wireRdps addr) := by
  intro codes; simp [encodeWith, isOperation, responseLength]

end Sys2Proof.Laws.EncodedSize
end

