-- ==== Sys2Proof/Tests/Slice0.lean ====
section
/-! SUPPORT. The model's own tests. Expected values come from spec/: the encodings of 30_encoding.md R91 to R107
written out bit by bit, and the worked examples of 40_checksum.md to 45_housekeeping.md and 95_test_vectors.md.
After them, for every statement of Certificates/Slice0/Obligations.lean that has hypotheses, a state and
operands that meet them. -/

namespace Sys2Proof.Tests

open Sys2Proof Sys2Proof.Machine

/-! ### Helpers -/

/-- The command bytes of the default G1 of 93_implementation_defined.md, an input of these tests and of
nothing in the model. -/
def g1 : Fin 9 → Byte := ![0x00, 0x80, 0x81, 0x82, 0x86, 0x87, 0x88, 0x89, 0x8A]

/-- Whether an outcome is a next state that passes `f`. -/
def ends (o : Host.Outcome State Fault Refusal) (f : State → Bool) : Bool :=
  match o with
  | .next t => f t
  | .fault _ => false
  | .refused _ => false

/-- The reset state with a payload and a secondary sequence. -/
def withPay (p s : List Byte) : State := { State.reset with pay := p, payv := true, sec := s }

/-- The reset state with a command byte, an expected length and a response. -/
def withRx (c : Byte) (n : Len9) (r : List Byte) : State := { State.reset with cmd := c, explen := n, rx := r }

/-- A state in which the call of index k is open, with command byte `c`, and `r` was received. -/
def inCall (k : BitVec 4) (c : Byte) (sec : List Byte) (n : Len9) (r : List Byte) : State :=
  { withRx c n r with callv := true, kidx := k, sec := sec, tx := [c], txv := true }

/-- The reset state with the three operands. -/
def withOperands (a : Addr) (n v : Byte) : State := { State.reset with addr := a, len := n, wval := v }

/-- The reset state with the host's actions and the transport's answers. -/
def withHost (l : List HostAction) (b : List (Option (List Byte))) : State :=
  { State.reset with env := { Env.reset with script := l, inbox := b } }

/-- The Status record of V-S7 (a). -/
def statusExample : List Byte := [0xC0, 0x01, 0x05, 0xB1, 0x00, 0x10, 0x00, 0x1C, 0x00, 0xFF, 0xFF]

/-- The Device Identification record of 95_test_vectors.md 2.3. -/
def devIdExample : List Byte := [0x62, 0xDD, 0xFE, 0xFF, 0x1E, 0x93, 0x0B, 0x8F, 0x90]

/-! ### Well-formedness -/

/-- A word of the table is no reserved word: the ill-formed terms the check refuses (R94). -/
theorem test_wellFormed_refuses_operation_words :
    wellFormed (.reserved 0x01) = false ∧ wellFormed (.reserved 0x07) = false
    ∧ wellFormed (.reserved 0x10) = false ∧ wellFormed (.reserved 0x18) = false
    ∧ wellFormed (.reserved 0x20) = false ∧ wellFormed (.reserved 0x28) = false := by decide

/-- The borders of the reserved ranges are admitted (R94). -/
theorem test_wellFormed_admits_reserved_words :
    wellFormed (.reserved 0x00) = true ∧ wellFormed (.reserved 0x08) = true
    ∧ wellFormed (.reserved 0x0F) = true ∧ wellFormed (.reserved 0x19) = true
    ∧ wellFormed (.reserved 0x1F) = true ∧ wellFormed (.reserved 0x29) = true
    ∧ wellFormed (.reserved 0x2F) = true ∧ wellFormed (.reserved 0x30) = true
    ∧ wellFormed (.reserved 0xFF) = true := by decide

/-! ### Decoding: a word written out for every constructor -/

theorem test_decode_csum : decode [0b00000001] = .ok .csum ∧ encode .csum = [0b00000001] := ⟨rfl, rfl⟩

theorem test_decode_enc : decode [0b00000010] = .ok .enc ∧ encode .enc = [0b00000010] := ⟨rfl, rfl⟩

theorem test_decode_val : decode [0b00000011] = .ok .val ∧ encode .val = [0b00000011] := ⟨rfl, rfl⟩

theorem test_decode_csv : decode [0b00000100] = .ok .csv ∧ encode .csv = [0b00000100] := ⟨rfl, rfl⟩

theorem test_decode_dst : decode [0b00000101] = .ok .dst ∧ encode .dst = [0b00000101] := ⟨rfl, rfl⟩

theorem test_decode_did : decode [0b00000110] = .ok .did ∧ encode .did = [0b00000110] := ⟨rfl, rfl⟩

theorem test_decode_clre : decode [0b00000111] = .ok .clre ∧ encode .clre = [0b00000111] := ⟨rfl, rfl⟩

theorem test_decode_rqPing : decode [0b00010000] = .ok .rqPing ∧ encode .rqPing = [0b00010000] := ⟨rfl, rfl⟩

theorem test_decode_rqReset : decode [0b00010001] = .ok .rqReset ∧ encode .rqReset = [0b00010001] := ⟨rfl, rfl⟩

theorem test_decode_rqInit : decode [0b00010010] = .ok .rqInit ∧ encode .rqInit = [0b00010010] := ⟨rfl, rfl⟩

theorem test_decode_rqGetst : decode [0b00010011] = .ok .rqGetst ∧ encode .rqGetst = [0b00010011] := ⟨rfl, rfl⟩

theorem test_decode_rqExit : decode [0b00010100] = .ok .rqExit ∧ encode .rqExit = [0b00010100] := ⟨rfl, rfl⟩

theorem test_decode_rqRdfl : decode [0b00010101] = .ok .rqRdfl ∧ encode .rqRdfl = [0b00010101] := ⟨rfl, rfl⟩

theorem test_decode_rqRdid : decode [0b00010110] = .ok .rqRdid ∧ encode .rqRdid = [0b00010110] := ⟨rfl, rfl⟩

theorem test_decode_rqWrps : decode [0b00010111] = .ok .rqWrps ∧ encode .rqWrps = [0b00010111] := ⟨rfl, rfl⟩

theorem test_decode_rqRdps : decode [0b00011000] = .ok .rqRdps ∧ encode .rqRdps = [0b00011000] := ⟨rfl, rfl⟩

theorem test_decode_rsPing : decode [0b00100000] = .ok .rsPing ∧ encode .rsPing = [0b00100000] := ⟨rfl, rfl⟩

theorem test_decode_rsReset : decode [0b00100001] = .ok .rsReset ∧ encode .rsReset = [0b00100001] := ⟨rfl, rfl⟩

theorem test_decode_rsInit : decode [0b00100010] = .ok .rsInit ∧ encode .rsInit = [0b00100010] := ⟨rfl, rfl⟩

theorem test_decode_rsGetst : decode [0b00100011] = .ok .rsGetst ∧ encode .rsGetst = [0b00100011] := ⟨rfl, rfl⟩

theorem test_decode_rsExit : decode [0b00100100] = .ok .rsExit ∧ encode .rsExit = [0b00100100] := ⟨rfl, rfl⟩

theorem test_decode_rsRdfl : decode [0b00100101] = .ok .rsRdfl ∧ encode .rsRdfl = [0b00100101] := ⟨rfl, rfl⟩

theorem test_decode_rsRdid : decode [0b00100110] = .ok .rsRdid ∧ encode .rsRdid = [0b00100110] := ⟨rfl, rfl⟩

theorem test_decode_rsWrps : decode [0b00100111] = .ok .rsWrps ∧ encode .rsWrps = [0b00100111] := ⟨rfl, rfl⟩

theorem test_decode_rsRdps : decode [0b00101000] = .ok .rsRdps ∧ encode .rsRdps = [0b00101000] := ⟨rfl, rfl⟩

theorem test_decode_reserved :
    decode [0b00000000] = .ok (.reserved 0x00) ∧ decode [0b00001111] = .ok (.reserved 0x0F)
    ∧ decode [0b00011001] = .ok (.reserved 0x19) ∧ decode [0b00101001] = .ok (.reserved 0x29)
    ∧ decode [0b11111111] = .ok (.reserved 0xFF) := ⟨rfl, rfl, rfl, rfl, rfl⟩

/-- An operation word has exactly one byte (R91). -/
theorem test_decode_rejects_other_lengths :
    decode [] = .error .noBytes ∧ decode [0x01, 0x00] = .error .extraBytes := ⟨rfl, rfl⟩

theorem test_decodeTableWord :
    decodeTableWord 8 0x04 = some .csv ∧ decodeTableWord 8 0x28 = some .rsRdps
    ∧ decodeTableWord 8 0x00 = some (.reserved 0x00) ∧ decodeTableWord 16 0x04 = none := by decide

theorem test_decode_wirePing :
    decodeFrameWith g1 [0x00] 1 = .ok .wirePing ∧ encodeWith g1 .wirePing = [0x00] := by decide

theorem test_decode_wireReset :
    decodeFrameWith g1 [0x80] 1 = .ok .wireReset ∧ encodeWith g1 .wireReset = [0x80] := by decide

theorem test_decode_wireInit :
    decodeFrameWith g1 [0x81] 1 = .ok .wireInit ∧ encodeWith g1 .wireInit = [0x81] := by decide

theorem test_decode_wireGetst :
    decodeFrameWith g1 [0x82] 12 = .ok .wireGetst ∧ encodeWith g1 .wireGetst = [0x82] := by decide

theorem test_decode_wireExit :
    decodeFrameWith g1 [0x86] 1 = .ok .wireExit ∧ encodeWith g1 .wireExit = [0x86] := by decide

theorem test_decode_wireRdfl :
    decodeFrameWith g1 [0x87, 0x12, 0x34, 0x04] 6 = .ok (.wireRdfl 0x1234 0x04) ∧ encodeWith g1 (.wireRdfl 0x1234 0x04) = [0x87, 0x12, 0x34, 0x04] := by decide

theorem test_decode_wireRdid :
    decodeFrameWith g1 [0x88] 10 = .ok .wireRdid ∧ encodeWith g1 .wireRdid = [0x88] := by decide

theorem test_decode_wireWrps :
    decodeFrameWith g1 [0x89, 0x00, 0x03, 0x2A] 2 = .ok (.wireWrps 0x0003 0x2A) ∧ encodeWith g1 (.wireWrps 0x0003 0x2A) = [0x89, 0x00, 0x03, 0x2A] := by decide

theorem test_decode_wireRdps :
    decodeFrameWith g1 [0x8A, 0x01, 0xFF] 3 = .ok (.wireRdps 0x01FF) ∧ encodeWith g1 (.wireRdps 0x01FF) = [0x8A, 0x01, 0xFF] := by decide

/-- Frames outside the nine (R112): an unknown command byte, a wrong payload length, a wrong response length. -/
theorem test_decodeFrame_rejects :
    decodeFrameWith g1 [] 1 = .error .noBytes ∧ decodeFrameWith g1 [0x55] 1 = .error .unknownFrame
    ∧ decodeFrameWith g1 [0x8A, 0x00] 3 = .error .unknownFrame
    ∧ decodeFrameWith g1 [0x8A, 0x00, 0x03] 4 = .error .unknownFrame := by decide

/-! ### The primitives -/

/-- 95_test_vectors.md 2.1. -/
theorem test_checksum :
    checksum [0x2A] [0x00, 0x03] = 0x2D ∧ checksum [0xFF] [0x01] = 0x00
    ∧ checksum [0xFF, 0xFF, 0xFF, 0xFF] [0xFF, 0xFF] = 0xFA
    ∧ checksum [0xDE, 0xAD, 0xBE, 0xEF] [0x12, 0x34] = 0x7E := by decide

/-- 40_checksum.md R132's example. -/
theorem test_csum : ends (exec .csum (withPay [0x2A] [0x00, 0x03]))
    (fun t => t.sum == 0x2D && t.sumv && t.err == 0 && t.pay == [0x2A]) = true := by decide

theorem test_csum_without_payload : ends (exec .csum State.reset)
    (fun t => !t.sumv && t.err == 8 && t.estk == 0x80) = true := by decide

/-- 40_checksum.md R133's example, and the mismatch row of 2.1. -/
theorem test_csv : ends (exec .csv (withPay [0x2A, 0x2D] [0x00, 0x03]))
    (fun t => t.pay == [0x2A] && t.payv && t.sum == 0x2D && t.sumv && t.err == 0) = true := by decide

theorem test_csv_mismatch : ends (exec .csv (withPay [0x2A, 0x2C] [0x00, 0x03]))
    (fun t => t.pay == [] && !t.payv && t.sum == 0x2D && t.sumv && t.err == 4 && t.estk == 0x08) = true := by
  decide

/-- 41_frame_codec.md R142's example; `ENC` opens no call. -/
theorem test_enc : ends (exec .enc { State.reset with cmd := 0x5A, pl := [0x12, 0x34, 0x04] })
    (fun t => t.tx == [0x5A, 0x12, 0x34, 0x04] && t.txv && !t.callv && t.err == 0) = true := by decide

/-- 41_frame_codec.md R143's example. -/
theorem test_val : ends (exec .val (withRx 0x5A 3 [0xA5, 0x2A, 0x2D]))
    (fun t => t.pay == [0x2A, 0x2D] && t.payv && t.err == 0) = true := by decide

/-- V-S1: a wrong byte and a wrong length: the acknowledgement is reported; 2.2: `EXPLEN` = 258. -/
theorem test_val_errors : ends (exec .val (withRx 0x5A 3 [0xA4])) (fun t => t.err == 2 && !t.payv) = true
    ∧ ends (exec .val (withRx 0x5A 258 [])) (fun t => t.err == 6 && !t.payv) = true := by decide

/-- V-S7 (a). -/
theorem test_dst : ends (exec .dst (withPay statusExample []))
    (fun t => t.stv && t.st.versionMajor == 1 && t.st.versionMinor == 5 && t.st.cmdReadflash
      && !t.st.appAutorun && t.st.useWdtReset && t.st.twoStepInit && t.st.enableLedUi && !t.st.eepromAccess
      && t.st.bootloaderStart == 0x0010 && t.st.applicationStart == 0x001C && t.st.oscillatorCal == 0xFF)
    = true := by decide

/-- V-S7: all twelve bytes. -/
theorem test_dst_twelve_bytes : ends (exec .dst (withPay (statusExample ++ [0xFF]) []))
    (fun t => t.err == 5 && t.estk == 0x10 && !t.stv && t.payv) = true := by decide

/-- 95_test_vectors.md 2.3. -/
theorem test_did : ends (exec .did (withPay devIdExample []))
    (fun t => t.idv && t.devId.lowFuseBits == 0x62 && t.devId.lockBits == 0xFF
      && t.devId.signatureByte0 == 0x1E && t.devId.calibration0 == 0x8F && t.devId.calibration1 == 0x90)
    = true := by decide

/-- 45_housekeeping.md R195's example. -/
theorem test_clre : ends (exec .clre { State.reset with estk := 0x06, err := 3 })
    (fun t => t.estk == 0x00 && t.err == 0) = true := by decide

/-- 95_test_vectors.md 2.6. -/
theorem test_reserved : ends (requestOperation 0x80 State.reset)
    (fun t => t.err == 7 && t.estk == 0x40 && t.opw == 0x80) = true := by decide

/-! ### The request builders (95_test_vectors.md 2.4) -/

theorem test_rqPing : exec .rqPing (withOperands 0 0 0) = .next
    { withOperands 0 0 0 with
        cmd := Config.cmdCode 0, pl := [], sec := [], explen := 1
        tx := [Config.cmdCode 0], txv := true, kidx := 0, callv := true } := rfl

theorem test_rqReset : exec .rqReset (withOperands 0 0 0) = .next
    { withOperands 0 0 0 with
        cmd := Config.cmdCode 1, pl := [], sec := [], explen := 1
        tx := [Config.cmdCode 1], txv := true, kidx := 1, callv := true } := rfl

theorem test_rqInit : exec .rqInit (withOperands 0 0 0) = .next
    { withOperands 0 0 0 with
        cmd := Config.cmdCode 2, pl := [], sec := [], explen := 1
        tx := [Config.cmdCode 2], txv := true, kidx := 2, callv := true } := rfl

theorem test_rqGetst : exec .rqGetst (withOperands 0 0 0) = .next
    { withOperands 0 0 0 with
        cmd := Config.cmdCode 3, pl := [], sec := [], explen := 12
        tx := [Config.cmdCode 3], txv := true, kidx := 3, callv := true } := rfl

theorem test_rqExit : exec .rqExit (withOperands 0 0 0) = .next
    { withOperands 0 0 0 with
        cmd := Config.cmdCode 4, pl := [], sec := [], explen := 1
        tx := [Config.cmdCode 4], txv := true, kidx := 4, callv := true } := rfl

theorem test_rqRdid : exec .rqRdid (withOperands 0 0 0) = .next
    { withOperands 0 0 0 with
        cmd := Config.cmdCode 6, pl := [], sec := [], explen := 10
        tx := [Config.cmdCode 6], txv := true, kidx := 6, callv := true } := rfl

theorem test_rqWrps : exec .rqWrps (withOperands 0x0003 0 0x2A) = .next
    { withOperands 0x0003 0 0x2A with
        cmd := Config.cmdCode 7, pl := [0x00, 0x03, 0x2A], sec := [0x2A, 0x00, 0x03], explen := 2
        tx := [Config.cmdCode 7, 0x00, 0x03, 0x2A], txv := true, kidx := 7, callv := true } := rfl

theorem test_rqRdps : exec .rqRdps (withOperands 0x01FF 0 0) = .next
    { withOperands 0x01FF 0 0 with
        cmd := Config.cmdCode 8, pl := [0x01, 0xFF], sec := [0x01, 0xFF], explen := 3
        tx := [Config.cmdCode 8, 0x01, 0xFF], txv := true, kidx := 8, callv := true } := rfl

/-- With `MAX_READ_LEN` = 255: the largest read. -/
theorem test_rqRdfl : (buildReadFlashWith 0xFF (withOperands 0xFFFF 0xFF 0)).explen = 257
    ∧ (buildReadFlashWith 0xFF (withOperands 0x1234 4 0)).pl = [0x12, 0x34, 0x04]
    ∧ (buildReadFlashWith 0xFF (withOperands 0x1234 4 0)).sec = [0x12, 0x34] := by decide

/-- With `MAX_READ_LEN` = 32: `LEN` = 32 is accepted, `LEN` = 33 is refused (2.4, P5). -/
theorem test_rqRdfl_bound : (buildReadFlashWith 32 (withOperands 0 32 0)).explen = 34
    ∧ (buildReadFlashWith 32 (withOperands 0 33 0)).err = 6
    ∧ vld (buildReadFlashWith 32 (withOperands 0 33 0)) = 0x00 := by decide

/-! ### The response consumers (95_test_vectors.md 2.5; the command bytes are G1's) -/

theorem test_rsPing : ends (exec .rsPing (inCall 0 0x00 [] 1 [0xFF]))
    (fun t => t.err == 0 && t.pay == [] && vld t == 0x23) = true := by decide

theorem test_rsPing_extra_byte : ends (exec .rsPing (inCall 0 0x00 [] 1 [0xFF, 0x00]))
    (fun t => t.err == 3 && vld t == 0x21) = true := by decide

theorem test_rsReset : ends (exec .rsReset (inCall 1 0x80 [] 1 [0x7F]))
    (fun t => t.err == 0 && vld t == 0x23) = true := by decide

theorem test_rsInit : ends (exec .rsInit (inCall 2 0x81 [] 1 [0x7E]))
    (fun t => t.err == 0 && vld t == 0x23) = true := by decide

theorem test_rsInit_echo : ends (exec .rsInit (inCall 2 0x81 [] 1 [0x81]))
    (fun t => t.err == 2 && vld t == 0x21) = true := by decide

theorem test_rsGetst : ends (exec .rsGetst (inCall 3 0x82 [] 12 (0x7D :: statusExample)))
    (fun t => t.err == 0 && vld t == 0x2B && t.st.versionMinor == 5 && t.st.applicationStart == 0x001C) = true := by decide

theorem test_rsExit : ends (exec .rsExit (inCall 4 0x86 [] 1 [0x79]))
    (fun t => t.err == 0 && vld t == 0x23) = true := by decide

theorem test_rsRdfl : ends (exec .rsRdfl (inCall 5 0x87 [0x12, 0x34] 6 [0x78, 0xDE, 0xAD, 0xBE, 0xEF, 0x7E]))
    (fun t => t.err == 0 && t.pay == [0xDE, 0xAD, 0xBE, 0xEF] && t.sum == 0x7E && vld t == 0x27) = true := by decide

theorem test_rsRdfl_wrong_data : ends (exec .rsRdfl (inCall 5 0x87 [0x12, 0x34] 6 [0x78, 0xDE, 0xAD, 0xBE, 0xEE, 0x7E]))
    (fun t => t.err == 4 && t.sum == 0x7D && vld t == 0x25) = true := by decide

theorem test_rsRdid : ends (exec .rsRdid (inCall 6 0x88 [] 10 (0x77 :: devIdExample)))
    (fun t => t.err == 0 && vld t == 0x33 && t.devId.calibration1 == 0x90) = true := by decide

theorem test_rsWrps : ends (exec .rsWrps (inCall 7 0x89 [0x2A, 0x00, 0x03] 2 [0x76, 0x2D]))
    (fun t => t.err == 0 && t.pay == [] && t.sum == 0x2D && vld t == 0x27) = true := by decide

theorem test_rsWrps_wrong_checksum : ends (exec .rsWrps (inCall 7 0x89 [0x2A, 0x00, 0x03] 2 [0x76, 0x2C]))
    (fun t => t.err == 4 && t.sum == 0x2D && vld t == 0x25) = true := by decide

theorem test_rsRdps : ends (exec .rsRdps (inCall 8 0x8A [0x01, 0x02] 3 [0x75, 0xFF, 0x02]))
    (fun t => t.err == 0 && t.pay == [0xFF] && t.sum == 0x02 && vld t == 0x27) = true := by decide

theorem test_rsRdfl_other_call : ends (exec .rsRdfl (inCall 8 0x8A [0x00, 0x03] 3 [0x75, 0x2A, 0x2D]))
    (fun t => t.err == 8 && t.estk == 0x80 && vld t == 0x21) = true := by decide

/-! ### The wire, the host -/

theorem test_wirePing : exec .wirePing (withHost [] [some [0xFF]]) = .next
    { State.reset with rx := [0xFF], env := { Env.reset with
        events := [.exchange [Config.cmdCode 0] 1 (some [0xFF])] } } := rfl

theorem test_wireReset : exec .wireReset (withHost [] [some [0x7F]]) = .next
    { State.reset with rx := [0x7F], env := { Env.reset with
        events := [.exchange [Config.cmdCode 1] 1 (some [0x7F])] } } := rfl

theorem test_wireInit : exec .wireInit (withHost [] [some [0x7E]]) = .next
    { State.reset with rx := [0x7E], env := { Env.reset with
        events := [.exchange [Config.cmdCode 2] 1 (some [0x7E])] } } := rfl

theorem test_wireGetst : exec .wireGetst (withHost [] [some [0x7D]]) = .next
    { State.reset with rx := [0x7D], env := { Env.reset with
        events := [.exchange [Config.cmdCode 3] 12 (some [0x7D])] } } := rfl

theorem test_wireExit : exec .wireExit (withHost [] [some [0x79]]) = .next
    { State.reset with rx := [0x79], env := { Env.reset with
        events := [.exchange [Config.cmdCode 4] 1 (some [0x79])] } } := rfl

theorem test_wireRdfl : exec (.wireRdfl 0x1234 0x04) (withHost [] [some [0x78]]) = .next
    { State.reset with rx := [0x78], env := { Env.reset with
        events := [.exchange [Config.cmdCode 5, 0x12, 0x34, 0x04] 6 (some [0x78])] } } := rfl

theorem test_wireRdid : exec .wireRdid (withHost [] [some [0x77]]) = .next
    { State.reset with rx := [0x77], env := { Env.reset with
        events := [.exchange [Config.cmdCode 6] 10 (some [0x77])] } } := rfl

theorem test_wireWrps : exec (.wireWrps 0x0003 0x2A) (withHost [] [some [0x76]]) = .next
    { State.reset with rx := [0x76], env := { Env.reset with
        events := [.exchange [Config.cmdCode 7, 0x00, 0x03, 0x2A] 2 (some [0x76])] } } := rfl

/-- A failing transport leaves `RX` alone (R115). -/
theorem test_wireRdps : exec (.wireRdps 0x01FF) (withHost [] [none]) = .next
    { State.reset with env := { Env.reset with
        events := [.exchange [Config.cmdCode 8, 0x01, 0xFF] 3 none], hostErr := 1 } } := rfl

/-- The next step after `withFetchWord` runs the word (R31). -/
theorem test_step_withFetchWord : ends (step (State.reset.withFetchWord 8 0x02))
    (fun t => t.opw == 0x02 && t.tx == [0x00] && t.txv && t.env.script == []) = true := by decide

/-- 95_test_vectors.md 2.5: a context write closes the call, whatever the value; an operand write does not. -/
theorem test_wr : ends (hostAction (.wr .explen 0x203) (inCall 8 0x8A [] 3 []))
    (fun t => t.explen == 3 && !t.callv) = true
    ∧ ends (hostAction (.wr .addr 0x7777) (inCall 8 0x8A [] 3 [])) (fun t => t.callv) = true := by decide

/-- 41_frame_codec.md R143: a response of 300 bytes saturates `RXLEN` at 258 (R24). -/
theorem test_ldRx_saturates : (loadRx (List.replicate 300 0xA5) State.reset).rx.length = 258 := by
  show ((List.replicate 300 0xA5).take 258).length = 258
  rw [List.length_take, List.length_replicate]
  rfl

/-- 95_test_vectors.md P5: after a refused builder the host passes over the exchange and the consumer. -/
theorem test_skipIfErr :
    (skipIfErr 2 { withHost (.xchg :: .wr .opw 0x25 :: [.reset]) [] with err := 6 }).env.script = [.reset]
    ∧ (skipIfErr 2 (withHost [.xchg, .reset] [])).env.script = [.xchg, .reset] := by decide

/-- P4 and its last sentence: a wrong first byte is retried, a wrong checksum is not. -/
theorem test_attempt :
    ends (hostAction (.attempt 8 3)
        { inCall 8 0x8A [0x01, 0xFF] 3 [] with env := { Env.reset with inbox := [some [0x74, 0x10, 0x10]] } })
      (fun t => t.env.hostErr == 2 && t.estk == 0x02 && t.opw == 0x28 && t.env.script == [.attempt 8 2]) = true
    ∧ ends (hostAction (.attempt 8 3)
        { inCall 8 0x8A [0x01, 0xFF] 3 [] with env := { Env.reset with inbox := [some [0x75, 0x10, 0x11]] } })
      (fun t => t.env.hostErr == 4 && t.sum == 0x10 && t.env.script == []) = true := by
  simp only [hostAction, attempt, exchange_eq_transact]
  decide

/-- The retry set (R219): a checksum error leaves the loop, with the host knowing its code. -/
theorem test_retryable : retryable 1 = true ∧ retryable 2 = true ∧ retryable 3 = true ∧ retryable 0 = false
    ∧ retryable 4 = false ∧ retryable 5 = false ∧ retryable 6 = false ∧ retryable 7 = false
    ∧ retryable 8 = false := by decide

/-! ### Witnesses -/

/-- The bytes of the table `g1` are pairwise distinct. -/
theorem g1_injective : Function.Injective g1 := by decide

theorem witness_DecodingAnEncodedInstructionGivesItBack :
    Function.Injective g1 ∧ WellFormed (.reserved 0xFF) ∧ isOperation (.reserved 0xFF) = true
    ∧ WellFormed (.wireRdfl 0xFFFF 0xFF) ∧ responseLength (.wireRdfl 0xFFFF 0xFF) = some 257 :=
  ⟨g1_injective, by decide, by decide, by decide, by decide⟩

theorem witness_AFrameDecodesOnlyToAnInstructionWithThoseBytes :
    decodeFrameWith g1 [0x8A, 0xFF, 0xFF] 3 = .ok (.wireRdps 0xFFFF) := by decide

theorem witness_ReservedWordsRaiseIllegalOperationOnly :
    decodeWord 0x00 = .reserved 0x00 ∧ decodeWord 0xFF = .reserved 0xFF := by decide

theorem witness_AStepRunsTheRequestedOperation :
    (withHost [.wr .opw 0x01, .xchg] []).env.script = .wr .opw 0x01 :: [.xchg] := rfl

theorem witness_AStepDoesTheNextHostAction :
    (withHost [.reset] []).env.script = .reset :: [] ∧ State.reset.env.script = [] := ⟨rfl, rfl⟩

theorem witness_EveryRequestedOperationEnds :
    (withHost [.wr .opw 0xFF] []).env.script = .wr .opw 0xFF :: [] := rfl

theorem witness_ChecksumLaws : List.Perm [(1 : Byte), 2] [2, 1] ∧ List.Perm [(3 : Byte)] [3] := by decide

theorem witness_StripVerifyAcceptsExactlyTheChecksum :
    (0x2D : Byte) = checksum [0x2A] [0x00, 0x03] ∧ (0x2C : Byte) ≠ checksum [0x2A] [0x00, 0x03] := by decide

theorem witness_CsumWritesTheChecksumOfPayAndSec :
    (withPay [] []).payv = true ∧ State.reset.payv = false := by decide

theorem witness_CsvVerifiesAndStripsTheTrailingByte :
    State.reset.payv = false ∧ ((withPay [] []).payv = true ∧ (withPay [] []).pay = [])
    ∧ ((withPay [0x2A, 0x2D] [0x00, 0x03]).payv = true
      ∧ (withPay [0x2A, 0x2D] [0x00, 0x03]).pay = [0x2A] ++ [0x2D]
      ∧ (0x2D : Byte) = checksum [0x2A] (withPay [0x2A, 0x2D] [0x00, 0x03]).sec)
    ∧ (withPay [0x00] [0x01]).pay = [] ++ [0x00]
    ∧ (0x00 : Byte) ≠ checksum [] (withPay [0x00] [0x01]).sec := by decide

theorem witness_ValidateResponseTestsInOrder :
    (0x00 : Byte) ≠ 0x00 ^^^ 0xFF ∧ (0xFF : Byte) = 0x00 ^^^ 0xFF ∧ ([] : List Byte).length + 1 ≠ 0
    ∧ ([] : List Byte).length + 1 = 1 := by decide

theorem witness_OneByteShortOrLongIsLengthMismatch :
    ([(0x5A : Byte) ^^^ 0xFF] ++ []).length + 1 = 2 ∧ ([(0x5A : Byte) ^^^ 0xFF] ++ []).length = 0 + 1 := by decide

theorem witness_ValValidatesAndUnwrapsTheResponse :
    257 < (withRx 0x5A 258 []).explen.toNat
    ∧ ((withRx 0x5A 257 []).explen.toNat ≤ 257 ∧ (withRx 0x5A 257 []).rx = [])
    ∧ ((withRx 0x5A 1 [0xA4]).rx = 0xA4 :: [] ∧ (0xA4 : Byte) ≠ (withRx 0x5A 1 [0xA4]).cmd ^^^ 0xFF)
    ∧ ((withRx 0x5A 0 [0xA5]).rx = 0xA5 :: [] ∧ (0xA5 : Byte) = (withRx 0x5A 0 [0xA5]).cmd ^^^ 0xFF
      ∧ ([] : List Byte).length + 1 ≠ (withRx 0x5A 0 [0xA5]).explen.toNat)
    ∧ ([] : List Byte).length + 1 = (withRx 0x5A 1 [0xA5]).explen.toNat := by decide

theorem witness_DstUnpacksTheStatusRecord :
    (withPay statusExample []).payv = true
    ∧ (withPay statusExample []).pay = [0xC0, 0x01, 0x05, 0xB1, 0x00, 0x10, 0x00, 0x1C, 0x00, 0xFF, 0xFF]
    ∧ (withPay devIdExample []).pay.length ≠ 11 ∧ State.reset.payv = false := by decide

theorem witness_DidUnpacksTheDeviceIdentificationRecord :
    (withPay devIdExample []).payv = true
    ∧ (withPay devIdExample []).pay = [0x62, 0xDD, 0xFE, 0xFF, 0x1E, 0x93, 0x0B, 0x8F, 0x90]
    ∧ (withPay statusExample []).pay.length ≠ 9 ∧ State.reset.payv = false := by decide

theorem witness_UnusedFeatureBitsAreIgnored :
    [(0 : Byte), 0, 0, 0].length = 4 ∧ (0xC0 : Byte) &&& 0x3F = 0x00 &&& 0x3F := by decide

theorem witness_OnlyTheExactWidthDecodes :
    (statusExample ++ [0xFF]).length ≠ 11 ∧ statusExample.length ≠ 9 := by decide

theorem witness_ReadFlashBuilderOpensItsCallOrRefuses :
    (withOperands 0x1234 0 0).len ≤ Config.maxReadLen
    ∧ (32 : Byte) < (withOperands 0 33 0).len ∧ (withOperands 0 32 0).len ≤ (32 : Byte) :=
  ⟨show (0 : Byte).toNat ≤ Config.maxReadLen.toNat from Nat.zero_le _, by decide, by decide⟩

theorem witness_BuildersDependOnlyOnTheirOperands :
    let s := withOperands 1 2 3
    let s' := { withOperands 1 2 3 with cmd := 9, callv := true }
    s.addr = s'.addr ∧ s.len = s'.len ∧ s.wval = s'.wval ∧ s ≠ s' := by decide

theorem witness_BareConsumersAcceptTheAcknowledgement :
    ∀ p ∈ [((0 : BitVec 4), (0x00 : Byte)), (1, 0x80), (2, 0x81), (4, 0x86)],
      (inCall p.1 p.2 [] 1 [p.2 ^^^ 0xFF]).callv = true ∧ (inCall p.1 p.2 [] 1 [p.2 ^^^ 0xFF]).kidx = p.1
      ∧ (inCall p.1 p.2 [] 1 [p.2 ^^^ 0xFF]).rx = ((inCall p.1 p.2 [] 1 []).cmd ^^^ 0xFF) :: []
      ∧ (inCall p.1 p.2 [] 1 [p.2 ^^^ 0xFF]).explen.toNat = ([] : List Byte).length + 1 :=
  fun _ _ => ⟨rfl, rfl, rfl, rfl⟩

theorem witness_StatusConsumerDeliversTheRecord :
    let s := inCall 3 0x82 [] 12 (0x7D :: statusExample)
    s.callv = true ∧ s.kidx = 3 ∧ s.rx = (s.cmd ^^^ 0xFF) :: statusExample
    ∧ s.explen.toNat = statusExample.length + 1
    ∧ decodeStatus statusExample = .ok (statusFields statusExample) :=
  ⟨rfl, rfl, rfl, rfl, rfl⟩

theorem witness_DeviceIdConsumerDeliversTheRecord :
    let s := inCall 6 0x88 [] 10 (0x77 :: devIdExample)
    s.callv = true ∧ s.kidx = 6 ∧ s.rx = (s.cmd ^^^ 0xFF) :: devIdExample
    ∧ s.explen.toNat = devIdExample.length + 1
    ∧ decodeDeviceId devIdExample = .ok (devIdFields devIdExample) :=
  ⟨rfl, rfl, rfl, rfl, rfl⟩

/-- One state per consumer with a checksum: `RDFL` of no byte, `WRPS`, `RDPS` of one byte. -/
theorem witness_ChecksumConsumersDeliverTheData :
    ∀ p ∈ [(inCall 5 0x87 [0x00, 0xFF] 2 [0x78, 0xFF], (5 : BitVec 4), ([] : List Byte)),
           (inCall 7 0x89 [0x2A, 0x00, 0x03] 2 [0x76, 0x2D], 7, []),
           (inCall 8 0x8A [0x00, 0x03] 3 [0x75, 0x2A, 0x2D], 8, [0x2A])],
      p.1.callv = true ∧ p.1.kidx = p.2.1
      ∧ p.1.rx = (p.1.cmd ^^^ 0xFF) :: (p.2.2 ++ [checksum p.2.2 p.1.sec])
      ∧ p.1.explen.toNat = p.2.2.length + 2 := by decide

theorem witness_ChecksumConsumersRejectAWrongChecksum :
    ∀ p ∈ [(inCall 5 0x87 [0x00, 0xFF] 2 [0x78, 0xFE], (5 : BitVec 4), ([] : List Byte), (0xFE : Byte)),
           (inCall 7 0x89 [0x2A, 0x00, 0x03] 2 [0x76, 0x2C], 7, [], 0x2C),
           (inCall 8 0x8A [0x00, 0x03] 3 [0x75, 0x2A, 0x00], 8, [0x2A], 0x00)],
      p.1.callv = true ∧ p.1.kidx = p.2.1 ∧ p.1.rx = (p.1.cmd ^^^ 0xFF) :: (p.2.2.1 ++ [p.2.2.2])
      ∧ p.1.explen.toNat = p.2.2.1.length + 2 ∧ p.2.2.2 ≠ checksum p.2.2.1 p.1.sec := by decide

theorem witness_ConsumersNeedTheirOpenCall :
    State.reset.callv = false ∧ (inCall 8 0x8A [] 3 []).kidx ≠ 5 := by decide

theorem witness_ConsumersRejectBadResponses :
    (inCall 8 0x8A [] 3 []).callv = true ∧ (inCall 8 0x8A [] 3 []).kidx = 8 ∧ (inCall 8 0x8A [] 3 []).rx = []
    ∧ (inCall 8 0x8A [] 3 [0x74]).rx = 0x74 :: [] ∧ (0x74 : Byte) ≠ (inCall 8 0x8A [] 3 []).cmd ^^^ 0xFF
    ∧ (0x75 : Byte) = (inCall 8 0x8A [] 3 []).cmd ^^^ 0xFF
    ∧ ([] : List Byte).length + 1 ≠ (inCall 8 0x8A [] 3 []).explen.toNat := by decide

theorem witness_ConsumersAreIdempotent : ∃ t,
    exec .rsRdps (inCall 8 0x8A [0x00, 0x03] 3 [0x75, 0x2A, 0x2D]) = .next t ∧ t.pay = [0x2A] := ⟨_, rfl, rfl⟩

/-- A call without a checksum and a call with one. -/
theorem witness_CallRoundTrip :
    (∃ t, exec .rqGetst State.reset = .next t ∧ t.err = 0 ∧ 1 + statusExample.length + 0 = t.explen.toNat)
    ∧ ∃ t, exec .rqRdps (withOperands 3 0 0) = .next t ∧ t.err = 0
      ∧ 1 + [(0x2A : Byte)].length + [checksum [0x2A] t.sec].length = t.explen.toNat :=
  ⟨⟨_, rfl, rfl, rfl⟩, ⟨_, rfl, rfl, rfl⟩⟩

theorem witness_OneErrorKindIsRecordedPerOperation :
    isOperation .csv = true ∧ Instr.csv ≠ .clre ∧ ∃ t, exec .csv State.reset = .next t ∧ t.err = 8 :=
  ⟨rfl, by decide, _, rfl, rfl⟩

theorem witness_OperationsLeaveTheHostsOperandsAlone :
    isOperation .rqWrps = true ∧ ∃ t, exec .rqWrps (withOperands 3 0 0x2A) = .next t ∧ t.explen = 2 :=
  ⟨rfl, _, rfl, rfl⟩

theorem witness_OnlyBuildersChangeTheCallContext :
    isOperation .val = true
    ∧ Instr.val ∉ [Instr.rqPing, .rqReset, .rqInit, .rqGetst, .rqExit, .rqRdfl, .rqRdid, .rqWrps, .rqRdps]
    ∧ Instr.val ≠ .enc ∧ ∃ t, exec .val (withRx 0x5A 1 [0xA5]) = .next t ∧ t.payv = true :=
  ⟨rfl, by decide, by decide, _, rfl, rfl⟩

theorem witness_OperationsIgnoreTheOutsideWorld :
    isOperation .enc = true ∧ ∃ t, exec .enc State.reset = .next t ∧ t.txv = true := ⟨rfl, _, rfl, rfl⟩

theorem witness_InvalidResultsReachNoOtherRegister :
    isOperation .csum = true ∧ (∃ t, exec .csum (withPay [0x2A] []) = .next t ∧ t.sumv = true)
    ∧ (withPay [0x2A] []).sumv = false ∧ (withPay [0x2A] []).stv = false ∧ (withPay [0x2A] []).idv = false
    ∧ (∃ t, exec .dst (withPay statusExample []) = .next t ∧ t.stv = true)
    ∧ ∃ t, exec .did (withPay devIdExample []) = .next t ∧ t.idv = true :=
  ⟨rfl, ⟨_, rfl, rfl⟩, rfl, rfl, rfl, ⟨_, rfl, rfl⟩, ⟨_, rfl, rfl⟩⟩

theorem witness_WritesToReadOnlyRegistersHaveNoEffect :
    Reg.err ∉ [Reg.cmd, .explen, .addr, .len, .wval, .opw]
    ∧ Reg.rx 257 ∉ [Reg.cmd, .explen, .addr, .len, .wval, .opw] := by decide

theorem witness_SequenceLoads :
    (List.replicate 3 (0 : Byte)).length ≤ 3 ∧ 3 < (List.replicate 4 (0 : Byte)).length
    ∧ (List.replicate 257 (0 : Byte)).length ≤ 257 ∧ 257 < (List.replicate 258 (0 : Byte)).length := by
  simp only [List.length_replicate]
  decide

theorem witness_ReadsChangeNoRegister :
    regValue .err State.reset = some 0 ∧ regValue .sum State.reset = none
    ∧ regValue (.pl 0) State.reset = none := by decide

/-- The whole of `PL`, its last byte, and one byte past its capacity. -/
theorem witness_BufferReadAfterWrite :
    let s := { State.reset with pl := [1, 2, 3] }
    (0 + [(7 : Byte), 8, 9].length ≤ (buffer .pl s).length ∧ 0 + [(7 : Byte), 8, 9].length ≤ Space.pl.cap)
    ∧ (2 + [(7 : Byte)].length ≤ (buffer .pl s).length ∧ (0 < 2 ∧ ¬ 2 + [(7 : Byte)].length ≤ 0))
    ∧ (0 + [(7 : Byte)].length ≤ 1) ∧ Space.pl.cap < 3 + [(7 : Byte)].length := by decide

/-- A state of the invariant about to open a call. -/
theorem witness_EveryStepKeepsTheInvariant :
    MachineInv (withHost [.wr .opw 0x10] []) ∧ ∃ t, step (withHost [.wr .opw 0x10] []) = .next t ∧ t.callv = true :=
  ⟨⟨by decide, fun h => absurd h (by decide), ⟨fun _ => rfl, fun _ => rfl⟩, ⟨.inl rfl, by decide⟩⟩, _, rfl, rfl⟩

/-- A state of the invariant with an open call: after `RQ.PING`, with its response received. -/
theorem witness_ConsumersNeverSeeAWrongRecordSize :
    let s := { State.reset with
      cmd := Config.cmdCode 0, explen := 1, tx := [Config.cmdCode 0], txv := true, callv := true
      rx := [Config.cmdCode 0 ^^^ 0xFF] }
    MachineInv s ∧ ∃ t, exec .rsPing s = .next t :=
  ⟨⟨by decide, fun _ => ⟨0, rfl, rfl, rfl, rfl, rfl, .inl ⟨by decide, rfl⟩⟩,
    ⟨fun _ => rfl, fun h => absurd h (by decide)⟩, ⟨.inl rfl, by decide⟩⟩, _, rfl⟩

theorem witness_ExchangeSendsTxAndLoadsTheAnswer :
    (withHost [] [some [0xFF]]).env.inbox = some [0xFF] :: [] ∧ (withHost [] [none]).env.inbox = none :: [] :=
  ⟨rfl, rfl⟩

theorem witness_WireFramesGoOutByteForByte :
    (withHost [] [some [0xFF]]).env.inbox = some [0xFF] :: [] ∧ (withHost [] [none]).env.inbox = none :: [] :=
  ⟨rfl, rfl⟩

theorem witness_AFailingTransportIsTriedEveryTime :
    0 < 3 ∧ (withHost [.attempt 8 3] [none, none, none]).env.script = .attempt 8 3 :: []
    ∧ (withHost [.attempt 8 3] [none, none, none]).env.inbox = List.replicate 3 none ++ [] :=
  ⟨by decide, rfl, rfl⟩

/-- The last attempt, with no frame built: the exchange of the empty frame fails; and an attempt with an answer to
come, one with a failure to come. -/
theorem witness_OnlyTheClosedSetIsRetried :
    (∃ t, hostAction (.attempt 8 1) (withHost [] [none]) = .next t ∧ t.env.hostErr = 1)
    ∧ (0 < 1 ∧ (withHost [] [some [0xFF]]).env.inbox = some [0xFF] :: [])
    ∧ (0 < 2 ∧ (withHost [] [none]).env.inbox = none :: []) :=
  ⟨⟨_, rfl, rfl⟩, ⟨by decide, rfl⟩, by decide, rfl⟩

end Sys2Proof.Tests
end

section
/-! PROOF. How an operation runs: it prepares the registers with `ERR` at 0, then ends there, raises one kind, or
runs a tail. What the block's operations keep is proved over these cases. -/

namespace Sys2Proof.Machine

/-- The states an operation can have prepared when it decides how to end: `ERR` is 0, and nothing is raised yet. -/
inductive Prepared (i : Instr) (s : State) : State → Prop
  | started : Prepared i s (startOp s)
  | cleared : i = .clre → Prepared i s { startOp s with estk := 0x00 }
  | sumInvalid : Prepared i s { startOp s with sumv := false }
  | statusInvalid : Prepared i s { startOp s with stv := false }
  | devIdInvalid : Prepared i s { startOp s with idv := false }
  | summed (c : Byte) : Prepared i s (setSum c (startOp s))
  | framed : Prepared i s (makeFrame (startOp s))
  | invalidated : Prepared i s (invalidateDerived (startOp s))
  | dropped : Prepared i s (dropPayload (invalidateDerived (startOp s)))
  | delivered (d : List Byte) : s.rx = ackByte s.cmd :: d →
      Prepared i s (deliverPayload d (dropPayload (invalidateDerived (startOp s))))
  | begun : Prepared i s (beginCall (startOp s))
  | built (k : Fin 9) (p q : List Byte) (n : Len9) : contextOf k p q n → p.length ≤ 3 → q.length ≤ 3 →
      Prepared i s (buildRequest k p q n s)

/-- How an operation ends from a prepared state: there, by raising a kind that is never `TransportError` (R201),
or by a tail (R180). -/
inductive Ends (u : State) : State → Prop
  | done : Ends u u
  | raised (k : ErrKind) : k ≠ .transportError → Ends u (raise k u)
  | tailed (tail : State → State) : IsTail tail → Ends u (tail u)

/-- The validate step ends by raising, or by what follows it on the delivered payload (R143, R180). -/
theorem validateThen_ends (i : Instr) {tail : State → State} (h : IsTail tail) (s : State) :
    ∃ u, Prepared i s u ∧ Ends u (validateThen tail (dropPayload (invalidateDerived (startOp s)))) := by
  rcases validateThen_cases tail (dropPayload (invalidateDerived (startOp s))) with ⟨d, hd, -, hr⟩ | hr | hr <;>
    rw [hr]
  · exact ⟨_, .delivered d hd, .tailed tail h⟩
  · exact ⟨_, .dropped, .raised _ (by decide)⟩
  · exact ⟨_, .dropped, .raised _ (by decide)⟩

/-- Every operation prepares a state and ends from it. -/
theorem operation_ends {i : Instr} {s t : State} (ho : isOperation i = true) (h : exec i s = .next t) :
    ∃ u, Prepared i s u ∧ Ends u t := by
  cases exec_operation_cases ho h with
  | csum _ ht =>
    subst ht
    unfold csum
    split
    · exact ⟨_, .summed _, .done⟩
    · exact ⟨_, .sumInvalid, .raised _ (by decide)⟩
  | enc _ ht => exact ht ▸ ⟨_, .framed, .done⟩
  | val _ ht =>
    subst ht
    unfold val
    split
    · exact ⟨_, .dropped, .raised _ (by decide)⟩
    · exact validateThen_ends i (.inl rfl) s
  | csv _ ht =>
    subst ht
    unfold csv
    split
    · exact ⟨_, .invalidated, .tailed verifyPayload (.inr (.inl rfl))⟩
    · exact ⟨_, .invalidated, .raised _ (by decide)⟩
  | dst _ ht =>
    subst ht
    unfold dst
    split
    · exact ⟨_, .statusInvalid, .tailed unpackStatus (.inr (.inr (.inl rfl)))⟩
    · exact ⟨_, .statusInvalid, .raised _ (by decide)⟩
  | did _ ht =>
    subst ht
    unfold did
    split
    · exact ⟨_, .devIdInvalid, .tailed unpackDevId (.inr (.inr (.inr rfl)))⟩
    · exact ⟨_, .devIdInvalid, .raised _ (by decide)⟩
  | clre hi ht => exact ht ▸ ⟨_, .cleared hi, .done⟩
  | reserved _ _ ht => exact ht ▸ ⟨_, .started, .raised _ (by decide)⟩
  | built k p q n _ hc hp hq ht => exact ht ▸ ⟨_, .built k p q n hc hp hq, .done⟩
  | tooLong _ _ ht => exact ht ▸ ⟨_, .begun, .raised _ (by decide)⟩
  | consumed k tail _ htail ht =>
    subst ht
    by_cases hopen : s.callv = true ∧ s.kidx = indexBits k
    · rw [consume_open hopen.1 hopen.2]
      exact validateThen_ends i htail s
    · rw [consume_closed hopen]
      exact ⟨_, .started, .raised _ (by decide)⟩

/-! ### What every operation leaves alone -/

/-- The host's operands, `OPW` and the world outside are the same in two states (R20, R42, R43). -/
def SameOperands (s t : State) : Prop :=
  t.addr = s.addr ∧ t.len = s.len ∧ t.wval = s.wval ∧ t.opw = s.opw ∧ t.env = s.env

theorem SameOperands.trans {s u t : State} (h : SameOperands s u) (h' : SameOperands u t) : SameOperands s t := by
  obtain ⟨haddr, hlen, hwval, hopw, henv⟩ := h
  obtain ⟨haddr', hlen', hwval', hopw', henv'⟩ := h'
  exact ⟨haddr'.trans haddr, hlen'.trans hlen, hwval'.trans hwval, hopw'.trans hopw, henv'.trans henv⟩

theorem Prepared.sameOperands {i : Instr} {s u : State} (h : Prepared i s u) : SameOperands s u := by
  cases h <;> exact ⟨rfl, rfl, rfl, rfl, rfl⟩

theorem Ends.sameOperands {u t : State} (h : Ends u t) : SameOperands u t := by
  cases h with
  | done => exact ⟨rfl, rfl, rfl, rfl, rfl⟩
  | raised k _ => exact ⟨rfl, rfl, rfl, rfl, rfl⟩
  | tailed tail htail => rw [tail_frame htail u]; exact ⟨rfl, rfl, rfl, rfl, rfl⟩

/-- No operation changes the host's operands, `OPW` or the world outside. -/
theorem operation_sameOperands {i : Instr} {s t : State} (ho : isOperation i = true)
    (h : exec i s = .next t) : SameOperands s t := by
  obtain ⟨u, hu, ht⟩ := operation_ends ho h
  exact hu.sameOperands.trans ht.sameOperands

/-! ### What every operation records -/

theorem Prepared.err {i : Instr} {s u : State} (h : Prepared i s u) : u.err = 0 := by
  cases h <;> rfl

theorem Prepared.estk {i : Instr} {s u : State} (h : Prepared i s u) (hi : i ≠ .clre) : u.estk = s.estk := by
  cases h with
  | cleared hc => exact absurd hc hi
  | _ => rfl

/-- From a state with `ERR` at 0, an operation ends with nothing recorded, or with one kind that is not
`TransportError` in `ERR` and, by its one bit, in `ESTK` (R201, R211, R212). -/
theorem Ends.recorded {u t : State} (h : Ends u t) (hu : u.err = 0) :
    (t.err = 0 ∧ t.estk = u.estk)
    ∨ ∃ k : ErrKind, k ≠ .transportError ∧ t.err = k.code ∧ t.estk = u.estk ||| stickyBit k.code := by
  cases h with
  | done => exact .inl ⟨hu, rfl⟩
  | raised k hk => exact .inr ⟨k, hk, rfl, rfl⟩
  | tailed tail htail =>
    rcases tail_recorded htail u with ⟨he, hk⟩ | ⟨he, hk⟩ | ⟨he, hk⟩
    · exact .inl ⟨he.trans hu, hk⟩
    · exact .inr ⟨.checksumError, by decide, he, hk⟩
    · exact .inr ⟨.bufferSizeMismatch, by decide, he, hk⟩

/-- An operation records nothing, or one kind that is not `TransportError`; only `CLRE` takes bits out of `ESTK`
(R33, R201, R211, R212). -/
theorem operation_recorded {i : Instr} {s t : State} (ho : isOperation i = true) (h : exec i s = .next t) :
    (t.err = 0 ∧ (i ≠ .clre → t.estk = s.estk))
    ∨ ∃ k : ErrKind, k ≠ .transportError ∧ t.err = k.code ∧ (i ≠ .clre → t.estk = s.estk ||| stickyBit k.code) := by
  obtain ⟨u, hu, ht⟩ := operation_ends ho h
  rcases ht.recorded hu.err with ⟨he, hs⟩ | ⟨k, hk, he, hs⟩
  · exact .inl ⟨he, fun hi => hs.trans (hu.estk hi)⟩
  · exact .inr ⟨k, hk, he, fun hi => hu.estk hi ▸ hs⟩

/-- The codes the block raises are 2 to 8 (R200, R201). -/
theorem code_bounds {k : ErrKind} (hk : k ≠ .transportError) : 2 ≤ k.code.toNat ∧ k.code.toNat ≤ 8 := by
  cases k with
  | transportError => exact absurd rfl hk
  | _ => decide

/-- Every operation ends with `ERR` 0 or one of the codes 2 to 8 (R32, R200). -/
theorem operation_err {i : Instr} {s t : State} (ho : isOperation i = true) (h : exec i s = .next t) :
    t.err = 0 ∨ (2 ≤ t.err.toNat ∧ t.err.toNat ≤ 8) := by
  rcases operation_recorded ho h with ⟨he, -⟩ | ⟨k, hk, he, -⟩
  · exact .inl he
  · exact .inr (he ▸ code_bounds hk)

/-- What an operation word decodes to is an operation, never a wire frame (R91). -/
theorem isOperation_decodeWord (w : Byte) : isOperation (decodeWord w) = true := by
  unfold decodeWord
  split <;> rfl

/-- Settles O8: the word decodes to an operation, every operation answers a next state, and what it leaves alone
and what it records is known of all of them. -/
theorem everyRequestedOperationEnds : Obligations.EveryRequestedOperationEnds := by
  intro s v rest hs
  obtain ⟨t, ht⟩ := exec_next (decodeWord (BitVec.ofNat 8 v)) { setScript rest s with opw := BitVec.ofNat 8 v }
  have ho := isOperation_decodeWord (BitVec.ofNat 8 v)
  obtain ⟨-, -, -, hopw, henv⟩ := operation_sameOperands ho ht
  exact ⟨t, (step_cons hs).trans ht, hopw, congrArg Env.script henv, operation_err ho ht⟩

end Sys2Proof.Machine
end

section
/-! PROOF. The invariant of the machine is kept: by the updates an operation is made of, by every operation, by an
exchange, by every action of the host, and so by every step. -/

namespace Sys2Proof.Machine

section

variable {s t : State}

/-! ### The shared updates -/

/-- The invariant is about the block's registers, and not about the world outside. -/
theorem MachineInv.with_env (h : MachineInv s) (e : Env) : MachineInv { s with env := e } :=
  ⟨h.buffers, h.call, h.empty, h.errors⟩

theorem MachineInv.with_opw (h : MachineInv s) (w : Byte) : MachineInv { s with opw := w } :=
  ⟨h.buffers, h.call, h.empty, h.errors⟩

theorem MachineInv.with_rx (h : MachineInv s) {v : List Byte} (hv : v.length ≤ 258) :
    MachineInv { s with rx := v } :=
  ⟨Memory.wf_setBuffer (b := .rx) h.buffers hv, h.call, h.empty, h.errors⟩

theorem MachineInv.startOp (h : MachineInv s) : MachineInv (startOp s) :=
  ⟨h.buffers, h.call, h.empty, .inl rfl, h.errors.2⟩

theorem MachineInv.setSum (h : MachineInv s) (c : Byte) : MachineInv (setSum c s) :=
  ⟨h.buffers, h.call, h.empty, h.errors⟩

theorem MachineInv.invalidateDerived (h : MachineInv s) : MachineInv (invalidateDerived s) :=
  ⟨h.buffers, h.call, h.empty, h.errors⟩

theorem MachineInv.dropPayload (h : MachineInv s) : MachineInv (dropPayload s) :=
  ⟨Memory.wf_setBuffer (b := .pay) h.buffers (Nat.zero_le _), h.call, ⟨fun _ => rfl, h.empty.2⟩, h.errors⟩

/-- A payload that comes from `RX` without its first byte fits `PAY`. -/
theorem MachineInv.deliverPayload (h : MachineInv s) {c : Byte} {d : List Byte} (hd : s.rx = c :: d) :
    MachineInv (deliverPayload d s) :=
  ⟨Memory.wf_deliverPayload h.buffers hd, h.call, ⟨nofun, h.empty.2⟩, h.errors⟩

/-- `ENC` on an open call writes the frame that is in `TX` already. -/
theorem MachineInv.makeFrame (h : MachineInv s) : MachineInv (makeFrame s) := by
  refine ⟨Memory.wf_makeFrame h.buffers, fun hc => ?_, ⟨h.empty.1, nofun⟩, h.errors⟩
  obtain ⟨k, hk, hcmd, -, -, hctx⟩ := h.call hc
  exact ⟨k, hk, hcmd, rfl, rfl, hctx⟩

/-- The sticky bit of a kind the block raises is bit c-1 of its code c, and not bit 0 (R33, R200). -/
theorem stickyBit_code_bits {k : ErrKind} (hk : k ≠ .transportError) :
    (stickyBit k.code).getLsbD (k.code.toNat - 1) = true ∧ (stickyBit k.code).getLsbD 0 = false := by
  cases k with
  | transportError => exact absurd rfl hk
  | _ => decide

/-- A raise records its kind in `ESTK`, and leaves bit 0 to `TransportError`, which is not raised (R201, R211). -/
theorem errorsRecorded_raise (h : ErrorsRecorded s) {k : ErrKind} (hk : k ≠ .transportError) :
    ErrorsRecorded (raise k s) := by
  obtain ⟨hlo, hhi⟩ := code_bounds hk
  obtain ⟨hbit, hzero⟩ := stickyBit_code_bits hk
  exact ⟨.inr ⟨hlo, hhi, by simp [hbit]⟩, by rw [raise_estk, BitVec.getLsbD_or, h.2, hzero, Bool.false_or]⟩

theorem MachineInv.raise (h : MachineInv s) {k : ErrKind} (hk : k ≠ .transportError) :
    MachineInv (raise k s) :=
  ⟨h.buffers, h.call, h.empty, errorsRecorded_raise h.errors hk⟩

/-- With no call open and both result buffers empty, nothing is left to ask but the lengths and the errors. -/
theorem MachineInv.beginCall (h : MachineInv s) : MachineInv (beginCall s) := by
  obtain ⟨hpl, hsec, -⟩ := (Memory.wf_iff s).mp h.buffers
  exact ⟨(Memory.wf_iff _).mpr ⟨hpl, hsec, Nat.zero_le _, Nat.zero_le _, Nat.zero_le _⟩, nofun,
    ⟨fun _ => rfl, fun _ => rfl⟩, h.errors⟩

/-- A builder opens a call with the context of its own rule, whatever was in the registers (R160, R45). -/
theorem MachineInv.buildRequest (h : MachineInv s) {k : Fin 9} {p q : List Byte} {n : Len9}
    (hc : contextOf k p q n) (hp : p.length ≤ 3) (hq : q.length ≤ 3) :
    MachineInv (buildRequest k p q n s) := by
  rw [buildRequest_eq]
  refine ⟨(Memory.wf_iff _).mpr ⟨hp, hq, Nat.succ_le_succ hp, Nat.zero_le _, Nat.zero_le _⟩, fun _ => ?_,
    ⟨fun _ => rfl, nofun⟩, .inl rfl, h.errors.2⟩
  exact ⟨k, rfl, rfl, rfl, rfl, hc⟩

/-- Verification shortens a valid payload or drops it. -/
theorem MachineInv.verifyPayload (h : MachineInv s) : MachineInv (verifyPayload s) := by
  rcases verifyPayload_cases s with ⟨-, hr⟩ | ⟨d, hd, hr⟩ | ⟨d, c, -, -, hr⟩
  · exact hr ▸ h.dropPayload.raise (by decide)
  · have hw := Memory.wf_verifyPayload h.buffers
    rw [hr] at hw ⊢
    exact ⟨hw, h.call, ⟨fun hv => absurd (hd.symm.trans (h.empty.1 hv)) (by simp), h.empty.2⟩, h.errors⟩
  · exact hr ▸ (h.setSum _).dropPayload.raise (by decide)

/-- A tail keeps the invariant (R180). -/
theorem MachineInv.tail (h : MachineInv s) {tail : State → State} (ht : IsTail tail) : MachineInv (tail s) := by
  rcases ht with rfl | rfl | rfl | rfl
  · exact h
  · exact h.verifyPayload
  · rcases unpackStatus_cases s with ⟨-, hr⟩ | ⟨-, hr⟩ <;> rw [hr]
    · exact ⟨h.buffers, h.call, h.empty, h.errors⟩
    · exact h.raise (by decide)
  · rcases unpackDevId_cases s with ⟨-, hr⟩ | ⟨-, hr⟩ <;> rw [hr]
    · exact ⟨h.buffers, h.call, h.empty, h.errors⟩
    · exact h.raise (by decide)

/-! ### Operations and exchanges -/

theorem Prepared.machineInv {i : Instr} (hp : Prepared i s t) (h : MachineInv s) : MachineInv t := by
  cases hp with
  | started => exact h.startOp
  | cleared _ => exact ⟨h.buffers, h.call, h.empty, .inl rfl, by simp⟩
  | sumInvalid | statusInvalid | devIdInvalid => exact ⟨h.buffers, h.call, h.empty, h.startOp.errors⟩
  | summed c => exact h.startOp.setSum c
  | framed => exact h.startOp.makeFrame
  | invalidated => exact h.startOp.invalidateDerived
  | dropped => exact h.startOp.invalidateDerived.dropPayload
  | delivered d hd => exact h.startOp.invalidateDerived.dropPayload.deliverPayload hd
  | begun => exact h.startOp.beginCall
  | built k p q n hc hp hq => exact h.buildRequest hc hp hq

theorem Ends.machineInv (he : Ends s t) (h : MachineInv s) : MachineInv t := by
  cases he with
  | done => exact h
  | raised k hk => exact h.raise hk
  | tailed tail htail => exact h.tail htail

/-- A transaction changes `RX` alone, and cuts the answer at its capacity (R24, R75). -/
theorem MachineInv.transact (h : MachineInv s) (f : List Byte) (n : Nat) : MachineInv (transact f n s) := by
  obtain ⟨_, rfl, ht, -⟩ := transact_spec f n s
  rcases hn : nextAnswer f n s with _ | r <;> rw [ht, hn]
  · exact h.with_env _
  · exact (h.with_rx (v := r.take 258) (List.length_take_le _ _)).with_env _

/-- Every instruction keeps the invariant: an operation and a wire frame alike. -/
theorem MachineInv.exec {i : Instr} (h : MachineInv s) (ht : exec i s = .next t) : MachineInv t := by
  cases hi : responseLength i with
  | none =>
    obtain ⟨u, hu, he⟩ := operation_ends (by simp [isOperation, hi]) ht
    exact he.machineInv (hu.machineInv h)
  | some n =>
    rw [exec_wire_eq_transact hi] at ht
    exact eq_of_next ht ▸ h.transact _ n

theorem MachineInv.requestOperation {w : Byte} (h : MachineInv s) (ht : requestOperation w s = .next t) :
    MachineInv t :=
  (h.with_opw w).exec ht

/-! ### The host's actions -/

/-- A write to any register but `OPW` is a write, and requests nothing (R37). -/
theorem hostAction_wr {r : Reg} (hr : r ≠ .opw) (v : Nat) (s : State) :
    hostAction (.wr r v) s = .next (writeReg r v s) := by
  cases r with
  | opw => exact absurd rfl hr
  | _ => rfl

/-- Everything one attempt of the dispatcher can do (R219): the exchange, with the consumer after it or not, and
then the host's own bookkeeping. -/
theorem attempt_cases {k : Fin 9} {left : Nat} (h : attempt k left s = .next t) :
    ∃ u e, t = endAttempt k left e u
      ∧ (u = transact s.tx s.explen.toNat s
        ∨ requestOperation (consumerWord k) (transact s.tx s.explen.toNat s) = .next u) := by
  obtain ⟨u, hu⟩ := exec_next (decodeWord (consumerWord k))
    { transact s.tx s.explen.toNat s with opw := consumerWord k }
  have hu : requestOperation (consumerWord k) (transact s.tx s.explen.toNat s) = .next u := hu
  simp only [attempt, exchange_eq_transact, hu] at h
  split at h
  · cases h
  · split at h
    · exact ⟨_, _, eq_of_next h, .inl rfl⟩
    · exact ⟨u, _, eq_of_next h, .inr hu⟩

theorem MachineInv.endAttempt (h : MachineInv s) (k : Fin 9) (left : Nat) (e : BitVec 4) :
    MachineInv (endAttempt k left e s) := by
  unfold Machine.endAttempt
  split <;> exact h.with_env _

theorem MachineInv.attempt {k : Fin 9} {left : Nat} (h : MachineInv s) (ht : attempt k left s = .next t) :
    MachineInv t := by
  obtain ⟨u, e, rfl, rfl | hu⟩ := attempt_cases ht
  · exact (h.transact _ _).endAttempt k left e
  · exact ((h.transact _ _).requestOperation hu).endAttempt k left e

theorem MachineInv.skipIfErr (h : MachineInv s) (n : Nat) : MachineInv (skipIfErr n s) := by
  unfold Machine.skipIfErr
  split
  · exact h
  · exact h.with_env _

/-- The invariant holds at reset (R41). -/
theorem machineInv_reset : MachineInv State.reset :=
  ⟨Memory.wf_reset, nofun, ⟨fun _ => rfl, fun _ => rfl⟩, .inl rfl, by decide⟩

/-- A host write to a register of the call context closes the call; the other operands are no part of the invariant
(R44). -/
theorem MachineInv.writeReg (h : MachineInv s) (r : Reg) (v : Nat) : MachineInv (writeReg r v s) := by
  cases r with
  | cmd | explen => exact ⟨h.buffers, nofun, h.empty, h.errors⟩
  | _ => exact ⟨h.buffers, h.call, h.empty, h.errors⟩

theorem MachineInv.readReg (h : MachineInv s) (r : Reg) : MachineInv (readReg r s) := by
  unfold Machine.readReg
  split <;> exact h.with_env _

/-- The two loads of the call context close the call (R38, R44). -/
theorem MachineInv.loadPl (h : MachineInv s) {v : List Byte} (hv : v.length ≤ Config.plCap) :
    MachineInv (loadPl v s) :=
  ⟨Memory.wf_loadPl h.buffers hv, nofun, h.empty, h.errors⟩

theorem MachineInv.loadSec (h : MachineInv s) {v : List Byte} (hv : v.length ≤ Config.secCap) :
    MachineInv (loadSec v s) :=
  ⟨Memory.wf_loadSec h.buffers hv, nofun, h.empty, h.errors⟩

theorem MachineInv.loadPay (h : MachineInv s) {v : List Byte} (hv : v.length ≤ Config.payCap) :
    MachineInv (loadPay v s) :=
  ⟨Memory.wf_loadPay h.buffers hv, h.call, ⟨nofun, h.empty.2⟩, h.errors⟩

/-- A load that must fit is done only if it fits (R38). -/
theorem machineInv_of_loadIfFits {cap : Nat} {v : List Byte} {load : List Byte → State → State}
    (hload : v.length ≤ cap → MachineInv (load v s)) (ht : loadIfFits cap v load s = .next t) :
    MachineInv t := by
  unfold loadIfFits at ht
  split at ht
  · next hv => exact eq_of_next ht ▸ hload hv
  · cases ht

/-- Every action of the host keeps the invariant (R37, R38, R44, R115, R219, R230). -/
theorem MachineInv.hostAction {a : HostAction} (h : MachineInv s) (ht : hostAction a s = .next t) :
    MachineInv t := by
  cases a with
  | wr r v =>
    by_cases hr : r = .opw
    · subst hr
      exact h.requestOperation ht
    · rw [hostAction_wr hr] at ht
      exact eq_of_next ht ▸ h.writeReg r v
  | rd r => exact eq_of_next ht ▸ h.readReg r
  | ldPl v => exact machineInv_of_loadIfFits h.loadPl ht
  | ldSec v => exact machineInv_of_loadIfFits h.loadSec ht
  | ldRx v => exact eq_of_next ht ▸ h.with_rx (List.length_take_le _ _)
  | ldPay v => exact machineInv_of_loadIfFits h.loadPay ht
  | xchg => exact eq_of_next ((exchange_eq_transact s).symm.trans ht) ▸ h.transact _ _
  | reset => exact eq_of_next ht ▸ machineInv_reset.with_env s.env
  | skipIfErr n => exact eq_of_next ht ▸ h.skipIfErr n
  | attempt k left => exact h.attempt ht

end

/-- Settles O53: a step is idle, or it is the host's next action. -/
theorem everyStepKeepsTheInvariant : Obligations.EveryStepKeepsTheInvariant := by
  intro s t h ht
  cases hs : s.env.script with
  | nil => exact eq_of_next ((step_idle hs).symm.trans ht) ▸ h
  | cons a rest => exact (h.with_env _).hostAction ((step_cons hs).symm.trans ht)

end Sys2Proof.Machine
end

section
/-! PROOF. The frames of the whole machine: which registers no operation changes, and which error kinds it records. -/

namespace Sys2Proof.Machine

/-- Settles O37: what an operation records is known by kind, and the kind's sticky bit is bit c - 1 of its code. -/
theorem oneErrorKindIsRecordedPerOperation : Obligations.OneErrorKindIsRecordedPerOperation := by
  intro i s t ho hi ht
  rcases operation_recorded ho ht with ⟨herr, hestk⟩ | ⟨k, hk, herr, hestk⟩
  · exact .inl ⟨herr, hestk hi⟩
  · obtain ⟨hlo, hhi⟩ := code_bounds hk
    rw [herr]
    exact .inr ⟨hlo, hhi, hestk hi⟩

/-- Settles O38. -/
theorem operationsLeaveTheHostsOperandsAlone : Obligations.OperationsLeaveTheHostsOperandsAlone :=
  fun _ _ _ ho ht => operation_sameOperands ho ht

/-! ### The call context -/

/-- The registers that only the request builders write, and `TX` with its valid bit, which `ENC` writes too
(R180, R209). -/
def callRegisters (s : State) :
    List Byte × Byte × Len9 × List Byte × List Byte × BitVec 4 × Bool × List Byte × Bool :=
  (s.rx, s.cmd, s.explen, s.pl, s.sec, s.kidx, s.callv, s.tx, s.txv)

theorem callRegisters_tail {tail : State → State} (h : IsTail tail) (u : State) :
    callRegisters (tail u) = callRegisters u := by
  rw [tail_frame h u]
  rfl

/-- The validate step, whatever it ends in, keeps the registers of the call (R143, R180). -/
theorem callRegisters_validateThen {tail : State → State} (h : IsTail tail) (u : State) :
    callRegisters (validateThen tail u) = callRegisters u := by
  rcases validateThen_cases tail u with ⟨d, -, -, hr⟩ | hr | hr <;> rw [hr]
  · exact callRegisters_tail h _
  · rfl
  · rfl

theorem callRegisters_ite {p : Prop} [Decidable p] {s u v : State} (hu : callRegisters u = callRegisters s)
    (hv : callRegisters v = callRegisters s) : callRegisters (if p then u else v) = callRegisters s := by
  split
  · exact hu
  · exact hv

/-- Of the operations, only `ENC` and the builders write a register of the call (R209). -/
theorem callRegisters_operation {i : Instr} {s t : State} (ho : isOperation i = true) (hb : i ∉ builders)
    (he : i ≠ .enc) (h : exec i s = .next t) : callRegisters t = callRegisters s := by
  cases exec_operation_cases ho h with
  | csum _ ht => subst ht; exact callRegisters_ite rfl rfl
  | enc hi _ => exact absurd hi he
  | val _ ht => subst ht; exact callRegisters_ite rfl (callRegisters_validateThen (.inl rfl) _)
  | csv _ ht => subst ht; exact callRegisters_ite (callRegisters_tail (.inr (.inl rfl)) _) rfl
  | dst _ ht => subst ht; exact callRegisters_ite (callRegisters_tail (.inr (.inr (.inl rfl))) _) rfl
  | did _ ht => subst ht; exact callRegisters_ite (callRegisters_tail (.inr (.inr (.inr rfl))) _) rfl
  | clre _ ht => subst ht; rfl
  | reserved _ _ ht => subst ht; rfl
  | built _ _ _ _ hi _ _ _ _ => exact absurd hi hb
  | tooLong hi _ _ => exact absurd (hi ▸ by decide) hb
  | consumed k tail _ htail ht => subst ht; exact callRegisters_ite (callRegisters_validateThen htail _) rfl

/-- Settles O39: `ENC` is a frame written and nothing else; of the rest, none writes a register of the call. -/
theorem onlyBuildersChangeTheCallContext : Obligations.OnlyBuildersChangeTheCallContext := by
  intro i s t ho hb ht
  by_cases he : i = .enc
  · subst he
    obtain rfl := eq_of_next ht
    exact ⟨rfl, rfl, rfl, rfl, rfl, rfl, rfl, fun h => absurd rfl h⟩
  · have h := callRegisters_operation ho hb he ht
    simp only [callRegisters, Prod.mk.injEq] at h
    obtain ⟨hrx, hcmd, hexplen, hpl, hsec, hkidx, hcallv, htx⟩ := h
    exact ⟨hrx, hcmd, hexplen, hpl, hsec, hkidx, hcallv, fun _ => htx⟩

/-! ### The size of a record -/

theorem indexBits_injective : Function.Injective indexBits := by
  intro k k'
  revert k k'
  decide

/-- An open call of command k has the context that k's builder made (R45). -/
theorem MachineInv.context_of_open {s : State} (h : MachineInv s) {k : Fin 9} (hc : s.callv = true)
    (hk : s.kidx = indexBits k) : contextOf k s.pl s.sec s.explen := by
  obtain ⟨k', hk', -, -, -, hctx⟩ := h.call hc
  exact indexBits_injective (hk.symm.trans hk') ▸ hctx

/-- `RQ.GETST` leaves the length of a Status record and an acknowledgement (R164). -/
theorem explen_of_contextOf_getst {pl sec : List Byte} {n : Len9} (h : contextOf 3 pl sec n) : n = 12 := by
  unfold contextOf at h
  split at h <;> simp_all

/-- `RQ.RDID` leaves the length of a Device Identification record and an acknowledgement (R167). -/
theorem explen_of_contextOf_rdid {pl sec : List Byte} {n : Len9} (h : contextOf 6 pl sec n) : n = 10 := by
  unfold contextOf at h
  split at h <;> simp_all

/-- A consumer whose tail can end with no error but a `ChecksumError`, on a payload of the length its builder
asked for, raises neither `BufferSizeMismatch` nor `InvalidArgument`: validation raises other kinds (R180, R206). -/
theorem consume_err_ne {s : State} (h : MachineInv s) {k : Fin 9} {tail : State → State}
    (htail : ∀ u, contextOf k u.pl u.sec u.explen → u.pay.length + 1 = u.explen.toNat → u.err = 0 →
      (tail u).err = 0 ∨ (tail u).err = 4) :
    (consume k tail s).err ≠ 5 ∧ (consume k tail s).err ≠ 6 := by
  rcases consume_cases k tail s with ⟨-, hr⟩ | ⟨hc, hk, hr | hr | ⟨d, -, hd, hr⟩⟩ <;> rw [hr]
  · rw [raise_err]; decide
  · rw [raise_err]; decide
  · rw [raise_err]; decide
  · rcases htail (deliverPayload d (dropPayload (invalidateDerived (startOp s)))) (h.context_of_open hc hk) hd rfl
      with he | he <;> rw [he] <;> decide

theorem verifyPayload_err {u : State} (hu : u.err = 0) :
    (verifyPayload u).err = 0 ∨ (verifyPayload u).err = 4 := by
  rcases verifyPayload_cases u with ⟨-, hr⟩ | ⟨d, -, hr⟩ | ⟨d, c, -, -, hr⟩ <;> rw [hr]
  · exact .inr rfl
  · exact .inl hu
  · exact .inr rfl

theorem unpackStatus_err {u : State} (hu : u.err = 0) (hpay : u.pay.length = 11) : (unpackStatus u).err = 0 := by
  rcases unpackStatus_cases u with ⟨-, hr⟩ | ⟨hne, -⟩
  · exact hr ▸ hu
  · exact absurd hpay hne

theorem unpackDevId_err {u : State} (hu : u.err = 0) (hpay : u.pay.length = 9) : (unpackDevId u).err = 0 := by
  rcases unpackDevId_cases u with ⟨-, hr⟩ | ⟨hne, -⟩
  · exact hr ▸ hu
  · exact absurd hpay hne

/-- `RS.PING`, `RS.RESET`, `RS.INIT`, `RS.EXIT`: no tail. -/
theorem consume_id_err_ne {s : State} (h : MachineInv s) (k : Fin 9) :
    (consume k id s).err ≠ 5 ∧ (consume k id s).err ≠ 6 :=
  consume_err_ne h fun _ _ _ hu => .inl hu

/-- `RS.RDFL`, `RS.WRPS`, `RS.RDPS`: the CHECKSUM tail. -/
theorem consume_verifyPayload_err_ne {s : State} (h : MachineInv s) (k : Fin 9) :
    (consume k verifyPayload s).err ≠ 5 ∧ (consume k verifyPayload s).err ≠ 6 :=
  consume_err_ne h fun _ _ _ hu => verifyPayload_err hu

/-- `RS.GETST`: the response of 12 bytes holds a record of 11 (R184). -/
theorem consume_unpackStatus_err_ne {s : State} (h : MachineInv s) :
    (consume 3 unpackStatus s).err ≠ 5 ∧ (consume 3 unpackStatus s).err ≠ 6 := by
  refine consume_err_ne h fun u hctx hlen hu => .inl (unpackStatus_err hu ?_)
  rw [explen_of_contextOf_getst hctx] at hlen
  exact Nat.succ.inj hlen

/-- `RS.RDID`: the response of 10 bytes holds a record of 9 (R187). -/
theorem consume_unpackDevId_err_ne {s : State} (h : MachineInv s) :
    (consume 6 unpackDevId s).err ≠ 5 ∧ (consume 6 unpackDevId s).err ≠ 6 := by
  refine consume_err_ne h fun u hctx hlen hu => .inl (unpackDevId_err hu ?_)
  rw [explen_of_contextOf_rdid hctx] at hlen
  exact Nat.succ.inj hlen

/-- Settles O54: an open call bounds the payload of the two consumers that unpack a record, and the other seven
measure nothing. -/
theorem consumersNeverSeeAWrongRecordSize : Obligations.ConsumersNeverSeeAWrongRecordSize := by
  intro i hi s t h ht
  simp only [List.mem_cons, List.not_mem_nil, or_false] at hi
  rcases hi with rfl | rfl | rfl | rfl | rfl | rfl | rfl | rfl | rfl <;> obtain rfl := eq_of_next ht
  · exact consume_id_err_ne h 0
  · exact consume_id_err_ne h 1
  · exact consume_id_err_ne h 2
  · exact consume_unpackStatus_err_ne h
  · exact consume_id_err_ne h 4
  · exact consume_verifyPayload_err_ne h 5
  · exact consume_unpackDevId_err_ne h
  · exact consume_verifyPayload_err_ne h 7
  · exact consume_verifyPayload_err_ne h 8

end Sys2Proof.Machine
end

section
/-! PROOF. What no operation reads: the outside world, and what a result register holds while its valid bit is 0. Each
operation is an update that is blind to them; this is proved of the parts, and kept by composition and by choice. -/

namespace Sys2Proof.Machine

/-- The contents that no operation reads (R40, R42, R43). -/
structure Unread where
  sum : Byte
  st : StatusRec
  devId : DevIdRec
  env : Env

/-- `s` with other contents of what no operation reads. -/
def State.withUnread (s : State) (v : Unread) : State :=
  { s with sum := v.sum, st := v.st, devId := v.devId, env := v.env }

/-- How an update that takes a result register from `a` to `b`, and its valid bit from `av` to `bv`, takes another
content `x` of it to `x'`: the register is overwritten with a content not made from its own, or it is kept and
made valid by nothing. -/
def Carries {α : Type} (a : α) (av : Bool) (b : α) (bv : Bool) (x x' : α) : Prop :=
  x' = b ∨ (x' = x ∧ b = a ∧ (bv = true → av = true))

section

variable {α : Type} {a b c x x' x'' : α} {av bv cv : Bool}

theorem Carries.kept : Carries a av a av x x := .inr ⟨rfl, rfl, id⟩

theorem Carries.invalid : Carries a av a false x x := .inr ⟨rfl, rfl, nofun⟩

theorem Carries.written : Carries a av b bv x b := .inl rfl

theorem Carries.trans (h : Carries a av b bv x x') (h' : Carries b bv c cv x' x'') :
    Carries a av c cv x x'' := by
  rcases h' with hw | ⟨hx', hc, hv'⟩
  · exact .inl hw
  · rcases h with hw | ⟨hx, hb, hv⟩
    · exact .inl (hx'.trans (hw.trans hc.symm))
    · exact .inr ⟨hx'.trans hx, hc.trans hb, hv ∘ hv'⟩

/-- A register that held the same content before holds the same after. -/
theorem Carries.eq (h : Carries a av b bv a x') : x' = b := by
  rcases h with hw | ⟨hx, hb, -⟩
  · exact hw
  · exact hx.trans hb.symm

/-- A register that becomes valid was overwritten. -/
theorem Carries.eq_of_valid (h : Carries a av b bv x x') (hav : av = false) (hbv : bv = true) : x' = b := by
  rcases h with hw | ⟨-, -, hv⟩
  · exact hw
  · exact absurd (hv hbv) (by simp [hav])

end

/-- The update `f` is blind: what it leaves in the other registers does not depend on what no operation reads; it
carries the three result registers, and passes the outside world on. -/
def Blind (f : State → State) : Prop :=
  ∀ (s : State) (v : Unread), ∃ v', f (s.withUnread v) = (f s).withUnread v' ∧ v'.env = v.env
    ∧ Carries s.sum s.sumv (f s).sum (f s).sumv v.sum v'.sum
    ∧ Carries s.st s.stv (f s).st (f s).stv v.st v'.st
    ∧ Carries s.devId s.idv (f s).devId (f s).idv v.devId v'.devId

theorem Blind.comp {f g : State → State} (hg : Blind g) (hf : Blind f) : Blind (fun s => g (f s)) := by
  intro s v
  obtain ⟨v₁, hs₁, henv₁, hsum₁, hst₁, hid₁⟩ := hf s v
  obtain ⟨v₂, hs₂, henv₂, hsum₂, hst₂, hid₂⟩ := hg (f s) v₁
  exact ⟨v₂, (congrArg g hs₁).trans hs₂, henv₂.trans henv₁, hsum₁.trans hsum₂, hst₁.trans hst₂, hid₁.trans hid₂⟩

/-- A choice by a test of other registers is blind if both its sides are. -/
theorem Blind.ite {p : State → Prop} [DecidablePred p] {f g : State → State}
    (hp : ∀ s v, p (s.withUnread v) ↔ p s) (hf : Blind f) (hg : Blind g) :
    Blind (fun s => if p s then f s else g s) := by
  intro s v
  by_cases h : p s
  · simp only [(hp s v).mpr h, h, if_true]
    exact hf s v
  · simp only [mt (hp s v).mp h, h, if_false]
    exact hg s v

/-! ### The parts of an operation -/

theorem blind_id : Blind id := fun _ v => ⟨v, rfl, rfl, .kept, .kept, .kept⟩

theorem blind_startOp : Blind startOp := fun _ v => ⟨v, rfl, rfl, .kept, .kept, .kept⟩

theorem blind_raise (k : ErrKind) : Blind (raise k) := fun _ v => ⟨v, rfl, rfl, .kept, .kept, .kept⟩

theorem blind_dropPayload : Blind dropPayload := fun _ v => ⟨v, rfl, rfl, .kept, .kept, .kept⟩

theorem blind_deliverPayload (d : List Byte) : Blind (deliverPayload d) :=
  fun _ v => ⟨v, rfl, rfl, .kept, .kept, .kept⟩

theorem blind_makeFrame : Blind makeFrame := fun _ v => ⟨v, rfl, rfl, .kept, .kept, .kept⟩

theorem blind_clearSticky : Blind (fun s => { s with estk := 0x00 }) :=
  fun _ v => ⟨v, rfl, rfl, .kept, .kept, .kept⟩

theorem blind_invalidateDerived : Blind invalidateDerived :=
  fun _ v => ⟨v, rfl, rfl, .invalid, .invalid, .invalid⟩

theorem blind_beginCall : Blind beginCall := fun _ v => ⟨v, rfl, rfl, .invalid, .invalid, .invalid⟩

theorem blind_verifyPayload : Blind verifyPayload := by
  intro s v
  rcases verifyPayload_cases s with ⟨hp, hr⟩ | ⟨d, hp, hr⟩ | ⟨d, c, hp, hc, hr⟩ <;> rw [hr]
  · exact ⟨v, verifyPayload_empty hp, rfl, .kept, .kept, .kept⟩
  · exact ⟨{ v with sum := checksum d s.sec }, verifyPayload_ok hp, rfl, .written, .kept, .kept⟩
  · exact ⟨{ v with sum := checksum d s.sec }, verifyPayload_wrong hp hc, rfl, .written, .kept, .kept⟩

theorem blind_unpackStatus : Blind unpackStatus := by
  intro s v
  rcases unpackStatus_cases s with ⟨hp, hr⟩ | ⟨hp, hr⟩ <;>
    rcases unpackStatus_cases (s.withUnread v) with ⟨hp', hr'⟩ | ⟨hp', hr'⟩ <;> rw [hr, hr']
  · exact ⟨{ v with st := statusFields s.pay }, rfl, rfl, .kept, .written, .kept⟩
  · exact absurd hp hp'
  · exact absurd hp' hp
  · exact blind_raise _ s v

theorem blind_unpackDevId : Blind unpackDevId := by
  intro s v
  rcases unpackDevId_cases s with ⟨hp, hr⟩ | ⟨hp, hr⟩ <;>
    rcases unpackDevId_cases (s.withUnread v) with ⟨hp', hr'⟩ | ⟨hp', hr'⟩ <;> rw [hr, hr']
  · exact ⟨{ v with devId := devIdFields s.pay }, rfl, rfl, .kept, .kept, .written⟩
  · exact absurd hp hp'
  · exact absurd hp' hp
  · exact blind_raise _ s v

/-- The validate step reads `CMD`, `RX` and `EXPLEN`, and goes on with a payload it took from `RX` (R143, R180). -/
theorem blind_validateThen {tail : State → State} (h : Blind tail) : Blind (validateThen tail) := by
  intro s v
  have hread : validateResponse (s.withUnread v).cmd (s.withUnread v).rx (s.withUnread v).explen.toNat
      = validateResponse s.cmd s.rx s.explen.toNat := rfl
  unfold validateThen
  rw [hread]
  cases validateResponse s.cmd s.rx s.explen.toNat with
  | error e => exact blind_raise e s v
  | ok d => exact h.comp (blind_deliverPayload d) s v

/-! ### The operations -/

theorem blind_csum : Blind csum :=
  .ite (fun _ _ => .rfl)
    (fun s v => ⟨{ v with sum := checksum s.pay s.sec }, rfl, rfl, .written, .kept, .kept⟩)
    (fun _ v => ⟨v, rfl, rfl, .invalid, .kept, .kept⟩)

theorem blind_invalidated : Blind (fun s => invalidateDerived (startOp s)) :=
  blind_invalidateDerived.comp blind_startOp

theorem blind_dropped : Blind (fun s => dropPayload (invalidateDerived (startOp s))) :=
  blind_dropPayload.comp blind_invalidated

theorem blind_csv : Blind csv :=
  .ite (fun _ _ => .rfl) (blind_verifyPayload.comp blind_invalidated) ((blind_raise _).comp blind_invalidated)

theorem blind_val : Blind val :=
  .ite (fun _ _ => .rfl) ((blind_raise _).comp blind_dropped) ((blind_validateThen blind_id).comp blind_dropped)

theorem blind_dst : Blind dst := by
  have hu : Blind (fun s => { startOp s with stv := false }) := fun _ v => ⟨v, rfl, rfl, .kept, .invalid, .kept⟩
  exact .ite (fun _ _ => .rfl) (blind_unpackStatus.comp hu) ((blind_raise _).comp hu)

theorem blind_did : Blind did := by
  have hu : Blind (fun s => { startOp s with idv := false }) := fun _ v => ⟨v, rfl, rfl, .kept, .kept, .invalid⟩
  exact .ite (fun _ _ => .rfl) (blind_unpackDevId.comp hu) ((blind_raise _).comp hu)

/-- A builder whose payload and secondary sequence are made of the operands. -/
theorem blind_buildRequest (k : Fin 9) {p q : State → List Byte} {n : State → Len9}
    (hp : ∀ s v, p (s.withUnread v) = p s) (hq : ∀ s v, q (s.withUnread v) = q s)
    (hn : ∀ s v, n (s.withUnread v) = n s) : Blind (fun s => buildRequest k (p s) (q s) (n s) s) := by
  intro s v
  simp only [hp, hq, hn]
  exact ⟨v, rfl, rfl, .invalid, .invalid, .invalid⟩

theorem blind_buildReadFlash : Blind buildReadFlash :=
  .ite (fun _ _ => .rfl) (blind_buildRequest 5 (fun _ _ => rfl) (fun _ _ => rfl) (fun _ _ => rfl))
    ((blind_raise _).comp (blind_beginCall.comp blind_startOp))

theorem blind_consume (k : Fin 9) {tail : State → State} (h : Blind tail) : Blind (consume k tail) :=
  .ite (fun _ _ => .rfl) ((blind_validateThen h).comp blind_dropped) ((blind_raise _).comp blind_startOp)

/-- Every operation is a blind update. -/
theorem exec_blind {i : Instr} (ho : isOperation i = true) : ∃ f, Blind f ∧ ∀ s, exec i s = .next (f s) := by
  have hbare (k : Fin 9) (n : Len9) : Blind (buildRequest k [] [] n) :=
    blind_buildRequest k (fun _ _ => rfl) (fun _ _ => rfl) (fun _ _ => rfl)
  cases i with
  | csum => exact ⟨_, blind_csum, fun _ => rfl⟩
  | enc => exact ⟨_, blind_makeFrame.comp blind_startOp, fun _ => rfl⟩
  | val => exact ⟨_, blind_val, fun _ => rfl⟩
  | csv => exact ⟨_, blind_csv, fun _ => rfl⟩
  | dst => exact ⟨_, blind_dst, fun _ => rfl⟩
  | did => exact ⟨_, blind_did, fun _ => rfl⟩
  | clre => exact ⟨_, blind_clearSticky.comp blind_startOp, fun _ => rfl⟩
  | reserved w => exact ⟨_, (blind_raise .illegalOperation).comp blind_startOp, fun _ => rfl⟩
  | rqPing | rqReset | rqInit | rqGetst | rqExit | rqRdid => exact ⟨_, hbare _ _, fun _ => rfl⟩
  | rqRdfl => exact ⟨_, blind_buildReadFlash, fun _ => rfl⟩
  | rqWrps | rqRdps =>
    exact ⟨_, blind_buildRequest _ (fun _ _ => rfl) (fun _ _ => rfl) (fun _ _ => rfl), fun _ => rfl⟩
  | rsPing | rsReset | rsInit | rsExit => exact ⟨_, blind_consume _ blind_id, fun _ => rfl⟩
  | rsGetst => exact ⟨_, blind_consume 3 blind_unpackStatus, fun _ => rfl⟩
  | rsRdid => exact ⟨_, blind_consume 6 blind_unpackDevId, fun _ => rfl⟩
  | rsRdfl | rsWrps | rsRdps => exact ⟨_, blind_consume _ blind_verifyPayload, fun _ => rfl⟩
  | _ => cases ho

/-- The next state of an operation, from a state with other contents of what it does not read. -/
theorem exec_withUnread {i : Instr} {s t : State} (ho : isOperation i = true) (h : exec i s = .next t)
    (v : Unread) : ∃ v', exec i (s.withUnread v) = .next (t.withUnread v') ∧ v'.env = v.env
      ∧ Carries s.sum s.sumv t.sum t.sumv v.sum v'.sum
      ∧ Carries s.st s.stv t.st t.stv v.st v'.st
      ∧ Carries s.devId s.idv t.devId t.idv v.devId v'.devId := by
  obtain ⟨f, hf, hexec⟩ := exec_blind ho
  obtain rfl := eq_of_next ((hexec s).symm.trans h)
  obtain ⟨v', hs, hv'⟩ := hf s v
  exact ⟨v', (hexec _).trans (congrArg _ hs), hv'⟩

/-- Settles O40: with the same result registers before, they are the same after. -/
theorem operationsIgnoreTheOutsideWorld : Obligations.OperationsIgnoreTheOutsideWorld := by
  intro i s t e ho ht
  obtain ⟨⟨sum, st, devId, env⟩, hexec, henv, hsum, hst, hid⟩ := exec_withUnread ho ht ⟨s.sum, s.st, s.devId, e⟩
  obtain ⟨rfl, rfl, rfl, rfl⟩ : sum = t.sum ∧ st = t.st ∧ devId = t.devId ∧ env = e :=
    ⟨hsum.eq, hst.eq, hid.eq, henv⟩
  exact hexec

/-- Settles O41: one register is changed, the other two and the outside world are as they were; if the changed one
becomes valid, the operation wrote it. -/
theorem invalidResultsReachNoOtherRegister : Obligations.InvalidResultsReachNoOtherRegister := by
  intro i s t ho ht
  obtain ⟨-, -, -, -, hworld⟩ := operation_sameOperands ho ht
  refine ⟨fun hv x => ?_, fun hv x => ?_, fun hv x => ?_⟩
  · obtain ⟨⟨sum, st, devId, env⟩, hexec, henv, hsum, hst, hid⟩ := exec_withUnread ho ht ⟨x, s.st, s.devId, s.env⟩
    obtain ⟨rfl, rfl, rfl⟩ : st = t.st ∧ devId = t.devId ∧ env = t.env :=
      ⟨hst.eq, hid.eq, henv.trans hworld.symm⟩
    exact ⟨sum, hexec, hsum.eq_of_valid hv⟩
  · obtain ⟨⟨sum, st, devId, env⟩, hexec, henv, hsum, hst, hid⟩ := exec_withUnread ho ht ⟨s.sum, x, s.devId, s.env⟩
    obtain ⟨rfl, rfl, rfl⟩ : sum = t.sum ∧ devId = t.devId ∧ env = t.env :=
      ⟨hsum.eq, hid.eq, henv.trans hworld.symm⟩
    exact ⟨st, hexec, hst.eq_of_valid hv⟩
  · obtain ⟨⟨sum, st, devId, env⟩, hexec, henv, hsum, hst, hid⟩ := exec_withUnread ho ht ⟨s.sum, s.st, x, s.env⟩
    obtain ⟨rfl, rfl, rfl⟩ : sum = t.sum ∧ st = t.st ∧ env = t.env :=
      ⟨hsum.eq, hst.eq, henv.trans hworld.symm⟩
    exact ⟨devId, hexec, hid.eq_of_valid hv⟩

end Sys2Proof.Machine
end

section
/-! PROOF. The host's access to the registers: its requests, writes, loads and reads, each as the effect it has, and
the values at reset. -/

namespace Sys2Proof.Machine

/-- The default row of the operation table is met by the words of the reserved ranges alone: all 256 words, the
finite check that R92, R93 and R94 divide them. -/
theorem wellFormed_decodeWord (w : Byte) : WellFormed (decodeWord w) := by
  revert w
  decide

/-- Settles O6: the write of `OPW` is taken from the script, and requests what its word decodes to. -/
theorem aStepRunsTheRequestedOperation : Obligations.AStepRunsTheRequestedOperation := by
  intro s v rest hs
  exact ⟨(step_cons hs).trans (hostAction_wr_opw v _), wellFormed_decodeWord _⟩

/-- Settles O42: each write is an update of its own register, and of `CALLV` where the register belongs to the
context (R44). -/
theorem hostWritesOperands : Obligations.HostWritesOperands := by
  intro s v
  exact ⟨rfl, rfl, rfl, rfl, rfl⟩

/-- A write to a register that the host cannot write leaves the state as it was (R37; log 9). -/
theorem writeReg_of_readOnly {r : Reg} (hr : r ∉ [Reg.cmd, .explen, .addr, .len, .wval, .opw]) (v : Nat)
    (s : State) : writeReg r v s = s := by
  cases r with
  | cmd | explen | addr | len | wval | opw => simp at hr
  | _ => rfl

/-- Settles O43: such a write requests no operation, and `writeReg` ignores it. -/
theorem writesToReadOnlyRegistersHaveNoEffect : Obligations.WritesToReadOnlyRegistersHaveNoEffect := by
  intro r s v hr
  have hopw : r ≠ .opw := by
    rintro rfl
    simp at hr
  rw [hostAction_wr hopw, writeReg_of_readOnly hr]

/-- Settles O44: three loads test the length against their buffer, `LD.RX` cuts it. -/
theorem sequenceLoads : Obligations.SequenceLoads := by
  intro s v
  refine ⟨?_, ?_, ?_, ?_, ?_, ?_⟩
  · exact fun hv => loadIfFits_next hv
  · exact fun hv => loadIfFits_next hv
  · rfl
  · exact fun hv => loadIfFits_next hv
  · exact fun hv => ⟨loadIfFits_refused hv, loadIfFits_refused hv⟩
  · exact fun hv => loadIfFits_refused hv

/-- A read of a register that holds a specified value delivers it (R37). -/
theorem readReg_of_some {r : Reg} {s : State} {w : BitVec 16} (h : regValue r s = some w) :
    readReg r s = record (.read r w) s := by
  simp only [readReg, h]

/-- A read of anything else uses up a free value of the register's width (R40; log 5). -/
theorem readReg_of_none {r : Reg} {s : State} (h : regValue r s = none) :
    readReg r s = draw (record (.read r (freeValue r s.env.draws)) s) := by
  simp only [readReg, h]

/-- Settles O45: both kinds of read are an event of the outside and touch nothing else. -/
theorem readsChangeNoRegister : Obligations.ReadsChangeNoRegister := by
  intro r s
  refine ⟨readReg r s, ?_⟩
  cases h : regValue r s with
  | some w =>
    rw [readReg_of_some h]
    exact ⟨w, congrArg _ (readReg_of_some h), rfl, rfl, rfl, fun _ hw => Option.some.inj hw, nofun⟩
  | none =>
    rw [readReg_of_none h]
    exact ⟨freeValue r s.env.draws, congrArg _ (readReg_of_none h), rfl, rfl, rfl, nofun,
      fun _ => ⟨rfl, freeValue_lt r _⟩⟩

/-- Settles O46: buffer bytes are the elements of their sequences (R61), and every other read is its register's row
of `regValue`. -/
theorem onlyValidResultsHaveASpecifiedValue : Obligations.OnlyValidResultsHaveASpecifiedValue := by
  intro s
  have hst (f : StatusField) : regValue (.st f) s = if s.stv then some (statusValue s.st f) else none := rfl
  have hid (f : DevIdField) : regValue (.id f) s = if s.idv then some (devIdValue s.devId f) else none := rfl
  refine ⟨rfl, fun f => by rw [hst]; cases s.stv <;> rfl, fun f => by rw [hid]; cases s.idv <;> rfl,
    fun i => congrArg (fun b => if s.txv then b else none) (bufferByte_eq .tx i s),
    fun i => congrArg (fun b => if s.payv then b else none) (bufferByte_eq .pay i s),
    fun i => bufferByte_eq .rx i s, fun i => bufferByte_eq .pl i s, fun i => bufferByte_eq .sec i s,
    rfl, rfl, rfl, rfl, rfl, rfl, rfl, rfl, rfl, rfl, rfl, rfl, rfl, rfl, fun h => ?_, fun h => ?_⟩
  · simp only [hst, h, if_true]
    exact ⟨rfl, rfl, rfl, rfl, rfl, rfl, rfl, rfl, rfl, rfl, rfl, rfl, rfl, rfl, rfl, rfl, rfl, rfl, rfl, rfl, rfl⟩
  · simp only [hid, h, if_true]
    exact ⟨rfl, rfl, rfl, rfl, rfl, rfl, rfl, rfl, rfl⟩

/-- `VLD` as its bits put one below the other, `CALLV` first (R34). -/
theorem vld_eq_concat (s : State) :
    vld s = ((((((0#2).concat s.callv).concat s.idv).concat s.stv).concat s.sumv).concat s.payv).concat s.txv := rfl

/-- Settles O47: each bit is read off the concatenation that `VLD` is. -/
theorem vldShowsTheValidBits : Obligations.VldShowsTheValidBits := by
  intro s
  rw [vld_eq_concat]
  refine ⟨?_, ?_, ?_, ?_, ?_, ?_, ?_, ?_, rfl⟩ <;> simp [BitVec.getElem_concat]

/-- Settles O49: the reset state is written out field by field. -/
theorem resetValues : Obligations.ResetValues := by
  unfold Obligations.ResetValues
  decide

/-- Settles O52. -/
theorem resetMeetsTheInvariant : Obligations.ResetMeetsTheInvariant := machineInv_reset

end Sys2Proof.Machine
end

section
/-! PROOF. The memory of the machine: its buffers under a write, the exchange with the peer, and the host's actions,
done one a step. -/

namespace Sys2Proof.Machine

/-! ### Steps -/

/-- Settles O7: the two cases of the host's script. -/
theorem aStepDoesTheNextHostAction : Obligations.AStepDoesTheNextHostAction :=
  ⟨fun _ _ _ hs => step_cons hs, fun _ hs => step_idle hs⟩

/-! ### Buffers -/

/-- Each index of an overwritten sequence: the new byte where there is one, and else the old one (R61). -/
theorem overwrite_getElem? (l : List Byte) (i : Nat) (v : List Byte) (j : Nat) :
    (overwrite l i v)[j]? = l[j]?.map fun b => if i ≤ j then v.getD (j - i) b else b :=
  List.getElem?_mapIdx

/-- Outside the bytes written, a sequence stays as it was. -/
theorem overwrite_getElem?_outside {i j : Nat} {v : List Byte} (h : j < i ∨ i + v.length ≤ j) (l : List Byte) :
    (overwrite l i v)[j]? = l[j]? := by
  rw [overwrite_getElem?]
  rcases h with hlt | hle
  · simp [Nat.not_le.mpr hlt]
  · have hv : v[j - i]? = none := List.getElem?_eq_none (by omega)
    simp [List.getD_eq_getElem?_getD, hv]

/-- Bytes written inside a sequence are its bytes from the index of the write on. -/
theorem overwrite_slice {l : List Byte} {i : Nat} {v : List Byte} (h : i + v.length ≤ l.length) :
    ((overwrite l i v).drop i).take v.length = v := by
  refine List.ext_getElem? fun j => ?_
  by_cases hj : j < v.length
  · have hl : i + j < l.length := by omega
    rw [List.getElem?_take_of_lt hj, List.getElem?_drop, overwrite_getElem?]
    simp [hj, hl]
  · simp [Nat.not_lt.mp hj]

/-- A read of one byte is the element at its index, if the sequence has one there (R76). -/
theorem memRead_one (b : Space) (j : Nat) (s : State) :
    memRead b j 1 s = (buffer b s)[j]?.map fun x => [x] := by
  unfold memRead
  by_cases hj : j < (buffer b s).length
  · simp [hj, Nat.succ_le_of_lt hj, List.take_one]
  · simp [hj]

/-- A write within the capacity sets the buffer to the overwritten sequence (R76). -/
theorem memWrite_next {b : Space} {i : Nat} {v : List Byte} (h : i + v.length ≤ b.cap) (s : State) :
    memWrite b i v s = some (setBuffer b (overwrite (buffer b s) i v) s) := if_pos h

/-- A write past the capacity is not defined (R76). -/
theorem memWrite_undefined {b : Space} {i : Nat} {v : List Byte} (h : b.cap < i + v.length) (s : State) :
    memWrite b i v s = none := if_neg (Nat.not_le.mpr h)

/-- Settles O48: the write sets the buffer to the overwritten sequence, which holds the bytes written and, at every
other index, the bytes it held before. -/
theorem bufferReadAfterWrite : Obligations.BufferReadAfterWrite := by
  intro b i v s
  refine ⟨fun hlen hcap => ⟨_, memWrite_next hcap s, ?_, fun j hj => ?_, ?_, ?_⟩, fun h => memWrite_undefined h s⟩
  · rw [memRead, buffer_setBuffer, overwrite_length, if_pos hlen, overwrite_slice hlen]
  · rw [memRead_one, memRead_one, buffer_setBuffer, overwrite_getElem?_outside hj]
  · rw [buffer_setBuffer]
  · rw [buffer_setBuffer, overwrite_length]

/-! ### Exchanges -/

/-- While answers are to come, the transport gives the oldest (R75; log 14). -/
theorem nextAnswer_cons {s : State} {a : Option (List Byte)} {rest : List (Option (List Byte))}
    (h : s.env.inbox = a :: rest) (f : List Byte) (n : Nat) : nextAnswer f n s = a := by
  rw [nextAnswer, h]

/-- Settles O55: `XCHG` is the transaction of `TX` and `EXPLEN`, and its answer is the transport's next. -/
theorem exchangeSendsTxAndLoadsTheAnswer : Obligations.ExchangeSendsTxAndLoadsTheAnswer := by
  intro s
  obtain ⟨t, rfl, hregs, hevents, herr, hscript, hinbox⟩ := transact_spec s.tx s.explen.toNat s
  refine ⟨nextAnswer s.tx s.explen.toNat s, _, exchange_eq_transact s, hregs, hevents, herr, hscript,
    fun b rest hs => ⟨nextAnswer_cons hs _ _, ?_⟩⟩
  rw [hinbox, hs, List.tail_cons]

end Sys2Proof.Machine
end

section
/-! PROOF. The two decoders and the encoder. -/

namespace Sys2Proof.Machine

/-! ### Operation words -/

/-- The default row of the operation table is met by exactly the words of the reserved ranges (R94): all 256
words, the finite check that R92, R93 and R94 divide them. -/
theorem decodeWord_eq_reserved_iff (w : Byte) : decodeWord w = .reserved w ↔ isReservedWord w = true := by
  revert w
  decide

/-- The encoding of an operation is one word, and the tables give that word its operation (R91 to R94). -/
theorem decode_encodeWith (codes : Fin 9 → Byte) {i : Instr} (hw : WellFormed i) (ho : isOperation i = true) :
    decode (encodeWith codes i) = .ok i := by
  cases i with
  | reserved w => exact congrArg Except.ok ((decodeWord_eq_reserved_iff w).mpr hw)
  | wirePing | wireReset | wireInit | wireGetst | wireExit | wireRdfl | wireRdid | wireWrps | wireRdps => cases ho
  | _ => rfl

/-! ### Request frames -/

/-- An address is its high byte and its low byte (R98). -/
theorem addr_eq_append (a : Addr) : a.extractLsb' 8 8 ++ a.extractLsb' 0 8 = a := by
  rw [BitVec.extractLsb'_append_extractLsb'_eq_extractLsb' (by rfl)]
  simp

/-- What it takes for a frame to be read as command k. -/
theorem frameAs_eq_some_iff {codes : Fin 9 → Byte} {c : Byte} {p : List Byte} {n : Nat} {k : Fin 9} {i : Instr} :
    frameAs codes c p n k = some i ↔ codes k = c ∧ frameInstr k p = some i ∧ responseLength i = some n := by
  unfold frameAs
  by_cases hc : codes k = c
  · cases hf : frameInstr k p with
    | none => simp [hc]
    | some j =>
      simp only [hc, if_true, Option.ite_none_right_eq_some, Option.some.injEq, true_and]
      exact ⟨fun ⟨hn, hj⟩ => ⟨hj, hj ▸ hn⟩, fun ⟨hj, hn⟩ => ⟨hj ▸ hn, hj⟩⟩
  · simp [hc]

/-- A frame that decodes is read as some command. -/
theorem exists_of_decodeFrameWith {codes : Fin 9 → Byte} {f : List Byte} {n : Nat} {i : Instr}
    (h : decodeFrameWith codes f n = .ok i) :
    ∃ k p, f = codes k :: p ∧ frameInstr k p = some i ∧ responseLength i = some n := by
  cases f with
  | nil => cases h
  | cons c p =>
    unfold decodeFrameWith at h
    cases hs : commandIndices.findSome? (frameAs codes c p n) with
    | none => simp [hs] at h
    | some j =>
      obtain rfl : j = i := by simpa [hs] using h
      obtain ⟨k, -, hk⟩ := List.exists_of_findSome?_eq_some hs
      obtain ⟨rfl, hi, hn⟩ := frameAs_eq_some_iff.mp hk
      exact ⟨k, p, rfl, hi, hn⟩

theorem mem_commandIndices (k : Fin 9) : k ∈ commandIndices := by
  revert k
  decide

/-- A frame that can be read as some command decodes (R112). -/
theorem decodeFrameWith_of_frameInstr {codes : Fin 9 → Byte} {k : Fin 9} {p : List Byte} {n : Nat} {i : Instr}
    (hi : frameInstr k p = some i) (hn : responseLength i = some n) :
    ∃ j, decodeFrameWith codes (codes k :: p) n = .ok j := by
  have hs : (commandIndices.findSome? (frameAs codes (codes k) p n)).isSome = true :=
    List.findSome?_isSome_iff.mpr ⟨k, mem_commandIndices k, by rw [frameAs_eq_some_iff.mpr ⟨rfl, hi, hn⟩]; rfl⟩
  obtain ⟨j, hj⟩ := Option.isSome_iff_exists.mp hs
  exact ⟨j, by simp only [decodeFrameWith, hj]⟩

/-- With distinct command bytes it decodes to what that command reads in it. -/
theorem decodeFrameWith_eq {codes : Fin 9 → Byte} (hinj : Function.Injective codes) {k : Fin 9} {p : List Byte}
    {n : Nat} {i : Instr} (hi : frameInstr k p = some i) (hn : responseLength i = some n) :
    decodeFrameWith codes (codes k :: p) n = .ok i := by
  obtain ⟨j, hj⟩ := decodeFrameWith_of_frameInstr (codes := codes) hi hn
  obtain ⟨k', p', hf, hj', -⟩ := exists_of_decodeFrameWith hj
  obtain ⟨hk, rfl⟩ := List.cons.inj hf
  obtain rfl := hinj hk
  rw [hj, Option.some.inj (hj'.symm.trans hi)]

/-- The encoding of a wire frame is a command byte and a payload in which that command reads it back (R99 to R107). -/
theorem frameInstr_of_responseLength (codes : Fin 9 → Byte) {i : Instr} {n : Nat} (h : responseLength i = some n) :
    ∃ k p, encodeWith codes i = codes k :: p ∧ frameInstr k p = some i := by
  cases i with
  | wirePing => exact ⟨0, [], rfl, rfl⟩
  | wireReset => exact ⟨1, [], rfl, rfl⟩
  | wireInit => exact ⟨2, [], rfl, rfl⟩
  | wireGetst => exact ⟨3, [], rfl, rfl⟩
  | wireExit => exact ⟨4, [], rfl, rfl⟩
  | wireRdfl a x => exact ⟨5, _, rfl, congrArg (fun b => some (Instr.wireRdfl b x)) (addr_eq_append a)⟩
  | wireRdid => exact ⟨6, [], rfl, rfl⟩
  | wireWrps a x => exact ⟨7, _, rfl, congrArg (fun b => some (Instr.wireWrps b x)) (addr_eq_append a)⟩
  | wireRdps a => exact ⟨8, _, rfl, congrArg (fun b => some (Instr.wireRdps b)) (addr_eq_append a)⟩
  | _ => cases h

/-- Settles O3: an operation by its word, a wire frame by the one command whose byte it starts with. -/
theorem decodingAnEncodedInstructionGivesItBack : Obligations.DecodingAnEncodedInstructionGivesItBack := by
  intro codes hinj i hw
  refine ⟨decode_encodeWith codes hw, fun n hn => ?_⟩
  obtain ⟨k, p, henc, hi⟩ := frameInstr_of_responseLength codes hn
  rw [henc, decodeFrameWith_eq hinj hi hn]

/-- Settles O4: the command a frame is read as has that frame for its encoding. -/
theorem aFrameDecodesOnlyToAnInstructionWithThoseBytes :
    Obligations.AFrameDecodesOnlyToAnInstructionWithThoseBytes := by
  intro codes f n i h
  obtain ⟨k, p, rfl, hi, hn⟩ := exists_of_decodeFrameWith h
  exact ⟨encodeWith_frameInstr hi, hn, by simp [isOperation, hn]⟩

/-- Settles O1: the 25 rows. -/
theorem operationWordsDecodeAsTheTableSays : Obligations.OperationWordsDecodeAsTheTableSays := by
  unfold Obligations.OperationWordsDecodeAsTheTableSays
  decide

/-- The encoder gives a decoded word back: all 256 words, the finite check of R91 to R94. -/
theorem encode_decodeWord (w : Byte) : encode (decodeWord w) = [w] := by
  revert w
  decide

/-- Settles O2. -/
theorem encodingADecodedWordGivesTheWordBack : Obligations.EncodingADecodedWordGivesTheWordBack :=
  fun w => ⟨encode_decodeWord w, wellFormed_decodeWord w, isOperation_decodeWord w⟩

/-- The check of reserved words as the ranges it is made of (R94). -/
theorem isReservedWord_iff (w : Byte) : isReservedWord w = true ↔
    w.toNat = 0 ∨ (0x08 ≤ w.toNat ∧ w.toNat ≤ 0x0F) ∨ (0x19 ≤ w.toNat ∧ w.toNat ≤ 0x1F)
      ∨ (0x29 ≤ w.toNat ∧ w.toNat ≤ 0x2F) ∨ 0x30 ≤ w.toNat := by
  simp only [isReservedWord, Bool.or_eq_true, Bool.and_eq_true, beq_iff_eq, decide_eq_true_eq, or_assoc]

/-- 231 words are reserved (R94). -/
theorem length_reservedWords : ((List.range 256).filter fun n =>
    decodeWord (BitVec.ofNat 8 n) == .reserved (BitVec.ofNat 8 n)).length = 231 := by
  rfl

/-- Settles O5: the reserved words are those of the ranges, and each has the one meaning of `execReserved`. -/
theorem reservedWordsRaiseIllegalOperationOnly : Obligations.ReservedWordsRaiseIllegalOperationOnly := by
  refine ⟨fun w => (decodeWord_eq_reserved_iff w).trans (isReservedWord_iff w), length_reservedWords,
    fun w s hw => ⟨rfl, ?_⟩⟩
  rw [requestOperation, hw]
  rfl

end Sys2Proof.Machine
end

section
/-! PROOF. What goes over the wire and what comes back: the frames the builders make, the transactions of the wire
frames, and the bytes of a record that no field is read from. -/

namespace Sys2Proof.Machine

/-! ### Records -/

/-- Bytes of a sequence other than the replaced one. -/
theorem byteAt_append_cons_of_ne {pre : List Byte} {i : Nat} (h : i ≠ pre.length) (e e' : Byte) (post : List Byte) :
    byteAt (pre ++ e :: post) i = byteAt (pre ++ e' :: post) i := by
  rcases Nat.lt_or_gt_of_ne h with hlt | hgt
  · simp [byteAt, List.getElem?_append_left hlt]
  · obtain ⟨j, hj⟩ : ∃ j, i - pre.length = j + 1 := ⟨i - pre.length - 1, by omega⟩
    simp [byteAt, List.getElem?_append_right hgt.le, hj]

theorem byteAt_append_cons_length {pre : List Byte} {i : Nat} (h : i = pre.length) (e : Byte) (post : List Byte) :
    byteAt (pre ++ e :: post) i = e := by
  simp [byteAt, h]

/-- The six used bits of the extended feature byte (R110). -/
theorem getLsbD_of_and_mask {e e' : Byte} (h : e &&& 0x3F = e' &&& 0x3F) {i : Nat} (hi : i < 6) :
    e.getLsbD i = e'.getLsbD i := by
  have hmask : ∀ j < 6, (0x3F : Byte).getLsbD j = true := by decide
  have hbit := congrArg (BitVec.getLsbD · i) h
  simpa only [BitVec.getLsbD_and, hmask i hi, Bool.and_true] using hbit

/-- Settles O20: only the byte at offset 4 differs, and of that byte the fields are its bits 5 to 0. -/
theorem unusedFeatureBitsAreIgnored : Obligations.UnusedFeatureBitsAreIgnored := by
  intro pre post e e' hpre hmask
  have hfields : statusFields (pre ++ e :: post) = statusFields (pre ++ e' :: post) := by
    have hother {i : Nat} (hi : i ≠ 4) : byteAt (pre ++ e :: post) i = byteAt (pre ++ e' :: post) i :=
      byteAt_append_cons_of_ne (hpre ▸ hi) e e' post
    have hbits {i : Nat} (hi : i < 6) :
        (byteAt (pre ++ e :: post) 4).getLsbD i = (byteAt (pre ++ e' :: post) 4).getLsbD i := by
      rw [byteAt_append_cons_length hpre.symm, byteAt_append_cons_length hpre.symm]
      exact getLsbD_of_and_mask hmask hi
    simp only [statusFields, recordWord, hother, hbits, ne_eq, Nat.reduceEqDiff, not_false_eq_true, Nat.reduceLT,
      Nat.reduceAdd]
  simp only [decodeStatus, hfields, List.length_append, List.length_cons]

/-! ### Built frames -/

/-- The length of a response of RDFL fits `EXPLEN` (R104). -/
theorem explen_readFlash (n : Byte) : (2 + n.setWidth 9 : Len9).toNat = 2 + n.toNat := by
  have hn := n.isLt
  have htwo : (2 : Len9).toNat = 2 := rfl
  rw [BitVec.toNat_add, BitVec.toNat_setWidth, htwo]
  omega

/-- `RQ.RDFL` of a length that is allowed is a builder without a precondition (R166). -/
theorem buildReadFlash_of_le {s : State} (h : s.len ≤ Config.maxReadLen) : buildReadFlash s =
    buildRequest 5 [addrHi s, addrLo s, s.len] [addrHi s, addrLo s] (2 + s.len.setWidth 9) s := if_pos h

/-- `RQ.RDFL` of any other length raises `InvalidArgument` (R166). -/
theorem buildReadFlash_of_not_le {s : State} (h : ¬ s.len ≤ Config.maxReadLen) : buildReadFlash s =
    raise .invalidArgument (beginCall (startOp s)) := if_neg h

/-- `RQ.RDFL`, if it does not raise, leaves its wire frame and the length of its response (R104, R166). -/
theorem buildReadFlash_frame {s : State} (herr : (buildReadFlash s).err = 0) :
    (buildReadFlash s).tx = encode (.wireRdfl s.addr s.len)
      ∧ responseLength (.wireRdfl s.addr s.len) = some (buildReadFlash s).explen.toNat := by
  by_cases hlen : s.len ≤ Config.maxReadLen
  · rw [buildReadFlash_of_le hlen, buildRequest_eq]
    exact ⟨rfl, congrArg some (explen_readFlash s.len).symm⟩
  · rw [buildReadFlash_of_not_le hlen, raise_err] at herr
    exact absurd herr (by decide)

/-- Settles O26: each builder writes the command byte and the payload of its own wire frame; the sixth is `RQ.RDFL`,
which may raise instead. -/
theorem builtFramesAreTheWireFrames : Obligations.BuiltFramesAreTheWireFrames := by
  intro s p hp
  simp only [List.mem_cons, List.not_mem_nil, or_false] at hp
  rcases hp with rfl | rfl | rfl | rfl | rfl | rfl | rfl | rfl | rfl
  on_goal 6 => exact ⟨_, rfl, buildReadFlash_frame⟩
  all_goals exact ⟨_, rfl, fun _ => ⟨rfl, rfl⟩⟩

/-! ### Wire frames -/

/-- A wire frame is one transaction of its encoding and its response length, with the next answer of the transport
(R75, R99 to R107). -/
theorem exec_wire_spec {i : Instr} {n : Nat} (h : responseLength i = some n) (s : State) :
    ∃ (a : Option (List Byte)) (t : State), exec i s = .next t
      ∧ t = { s with rx := (match a with | some r => r.take 258 | none => s.rx), env := t.env }
      ∧ t.env.events = s.env.events ++ [.exchange (encode i) n a]
      ∧ t.env.hostErr = (if a = none then 1 else 0) ∧ t.env.script = s.env.script
      ∧ ∀ b rest, s.env.inbox = b :: rest → a = b ∧ t.env.inbox = rest := by
  obtain ⟨t, rfl, hregs, hevents, herr, hscript, hinbox⟩ := transact_spec (encode i) n s
  refine ⟨nextAnswer (encode i) n s, _, exec_wire_eq_transact h s, hregs, hevents, herr, hscript,
    fun b rest hs => ⟨nextAnswer_cons hs _ _, ?_⟩⟩
  rw [hinbox, hs, List.tail_cons]

/-- Settles O56: the nine rows are the encodings and the response lengths of the frames. -/
theorem wireFramesGoOutByteForByte : Obligations.WireFramesGoOutByteForByte := by
  intro addr n v p hp
  have hrow : encode p.1 = p.2.1 ∧ responseLength p.1 = some p.2.2 := by
    simp only [List.mem_cons, List.not_mem_nil, or_false] at hp
    rcases hp with rfl | rfl | rfl | rfl | rfl | rfl | rfl | rfl | rfl <;> exact ⟨rfl, rfl⟩
  obtain ⟨hbytes, hlen⟩ := hrow
  exact hbytes ▸ exec_wire_spec hlen

end Sys2Proof.Machine
end

section
/-! PROOF. Whole calls: the steps that leave the world outside as it is, up to the open call, and then the exchange
and the consumer with each of its tails. -/

namespace Sys2Proof.Machine

section

variable {s t u : State} {k : Fin 9} {l rest : List HostAction} {more : List (Option (List Byte))} {d : List Byte}

/-! ### Steps before the exchange -/

/-- The next action of the host leads from `s` to `u`, records no error and changes nothing outside the block; `l`
are the actions still to come. -/
structure QuietStep (s : State) (l : List HostAction) (u : State) : Prop where
  step : step s = .next u
  estk : u.estk = s.estk
  env : u.env = { s.env with script := l }

/-- A call that delivers after a quiet step delivers with one step more. -/
theorem CallDelivers.of_quietStep {m n : Nat} {sent r : List Byte} (hq : QuietStep s l u)
    (h : CallDelivers m u t rest more sent n r d) : CallDelivers (m + 1) s t rest more sent n r d := by
  obtain ⟨hrun, herr, hestk, hpayv, hpay, henv⟩ := h
  exact ⟨(run_succ hq.step m).trans hrun, herr, hestk.trans hq.estk, hpayv, hpay, by rw [henv, hq.env]⟩

/-- A write of an address is quiet, and `ADDR` holds it (R37). -/
theorem quietStep_wrAddr {a : Addr} (hs : s.env.script = .wr .addr a.toNat :: l) :
    QuietStep s l { setScript l s with addr := a } := by
  refine ⟨?_, rfl, rfl⟩
  rw [step_cons hs, hostAction_wr (by decide), writeReg, BitVec.ofNat_toNat, BitVec.setWidth_eq]

/-- A write of a read length is quiet, and `LEN` holds it (R37). -/
theorem quietStep_wrLen {n : Byte} (hs : s.env.script = .wr .len n.toNat :: l) :
    QuietStep s l { setScript l s with len := n } := by
  refine ⟨?_, rfl, rfl⟩
  rw [step_cons hs, hostAction_wr (by decide), writeReg, BitVec.ofNat_toNat, BitVec.setWidth_eq]

/-- A write of a value is quiet, and `WVAL` holds it (R37). -/
theorem quietStep_wrWval {v : Byte} (hs : s.env.script = .wr .wval v.toNat :: l) :
    QuietStep s l { setScript l s with wval := v } := by
  refine ⟨?_, rfl, rfl⟩
  rw [step_cons hs, hostAction_wr (by decide), writeReg, BitVec.ofNat_toNat, BitVec.setWidth_eq]

/-- `OP` requests the operation of its word (R114). -/
theorem step_opAction {w : Byte} (hs : s.env.script = opAction w :: l) :
    step s = requestOperation w (setScript l s) := by
  rw [step_cons hs, opAction, hostAction_wr_opw, BitVec.ofNat_toNat, BitVec.setWidth_eq]

/-- With `ERR` = 0 the condition passes nothing over (log 21). -/
theorem skipIfErr_of_ok (h : s.err = 0) (n : Nat) : skipIfErr n s = s := if_pos h

/-- With any other `ERR` it passes over the next n actions (log 21). -/
theorem skipIfErr_of_err (h : s.err ≠ 0) (n : Nat) : skipIfErr n s = setScript (s.env.script.drop n) s := if_neg h

/-! ### The words of a call -/

/-- In `s` the word 0x10 + k requests a builder that does not raise, with this context (R93, R160). -/
def BuildsWith (k : Fin 9) (p q : List Byte) (n : Len9) (s : State) : Prop :=
  requestOperation (builderWord k) s = .next (buildRequest k p q n { s with opw := builderWord k })

/-- The word 0x20 + k requests the consumer of command k, with this tail (R93, R180). -/
def ConsumesWith (k : Fin 9) (tail : State → State) : Prop :=
  ∀ s, requestOperation (consumerWord k) s = .next (consume k tail { s with opw := consumerWord k })

theorem buildsWith_bare (hk : k ∈ [(0 : Fin 9), 1, 2, 4]) (s : State) : BuildsWith k [] [] 1 s := by
  simp only [List.mem_cons, List.not_mem_nil, or_false] at hk
  rcases hk with rfl | rfl | rfl | rfl <;> rfl

theorem buildsWith_getst (s : State) : BuildsWith 3 [] [] 12 s := rfl

theorem buildsWith_rdid (s : State) : BuildsWith 6 [] [] 10 s := rfl

theorem buildsWith_rdfl (h : s.len ≤ Config.maxReadLen) :
    BuildsWith 5 [addrHi s, addrLo s, s.len] [addrHi s, addrLo s] (2 + s.len.setWidth 9) s :=
  congrArg Host.Outcome.next (buildReadFlash_of_le (s := { s with opw := builderWord 5 }) h)

theorem buildsWith_wrps (s : State) : BuildsWith 7 [addrHi s, addrLo s, s.wval] [s.wval, addrHi s, addrLo s] 2 s := rfl

theorem buildsWith_rdps (s : State) : BuildsWith 8 [addrHi s, addrLo s] [addrHi s, addrLo s] 3 s := rfl

theorem consumesWith_bare (hk : k ∈ [(0 : Fin 9), 1, 2, 4]) : ConsumesWith k id := by
  simp only [List.mem_cons, List.not_mem_nil, or_false] at hk
  rcases hk with rfl | rfl | rfl | rfl <;> exact fun _ => rfl

theorem consumesWith_getst : ConsumesWith 3 unpackStatus := fun _ => rfl

theorem consumesWith_rdid : ConsumesWith 6 unpackDevId := fun _ => rfl

theorem consumesWith_rdfl : ConsumesWith 5 verifyPayload := fun _ => rfl

theorem consumesWith_wrps : ConsumesWith 7 verifyPayload := fun _ => rfl

theorem consumesWith_rdps : ConsumesWith 8 verifyPayload := fun _ => rfl

/-! ### Open calls -/

/-- The call of command k with the context its builder makes, and a response of the length it asks for (R160). -/
structure Call where
  k : Fin 9
  payload : List Byte
  secondary : List Byte
  explen : Len9
  response : List Byte
  length : explen.toNat = response.length + 1
  fits : response.length ≤ 257

/-- What goes to the peer. -/
def Call.frame (c : Call) : List Byte := Config.cmdCode c.k :: c.payload

/-- What the peer answers, if it answers as the descriptor says. -/
def Call.answer (c : Call) : List Byte := ackByte (Config.cmdCode c.k) :: c.response

/-- In `s` the call `c` is open and no error recorded, the host goes on with `l`, and the peer answers the call as the
descriptor says. -/
structure Opened (c : Call) (l : List HostAction) (more : List (Option (List Byte))) (s : State) : Prop where
  callv : s.callv = true
  kidx : s.kidx = indexBits c.k
  cmd : s.cmd = Config.cmdCode c.k
  tx : s.tx = c.frame
  sec : s.sec = c.secondary
  explen : s.explen = c.explen
  err : s.err = 0
  script : s.env.script = l
  inbox : s.env.inbox = some c.answer :: more

variable {c : Call}

/-- A builder that does not raise opens its call, and is quiet (R160). -/
theorem quietStep_builder (hs : s.env.script = opAction (builderWord c.k) :: l)
    (hin : s.env.inbox = some c.answer :: more)
    (hb : BuildsWith c.k c.payload c.secondary c.explen (setScript l s)) :
    ∃ u, QuietStep s l u ∧ Opened c l more u := by
  have hstep := (step_opAction hs).trans hb
  rw [buildRequest_eq] at hstep
  exact ⟨_, ⟨hstep, rfl, rfl⟩, ⟨rfl, rfl, rfl, rfl, rfl, rfl, rfl, rfl, hin⟩⟩

/-- An open call passes the condition of `CALL.RDFL`. -/
theorem Opened.skipIfErr {n : Nat} (h : Opened c (.skipIfErr n :: l) more s) :
    ∃ u, QuietStep s l u ∧ Opened c l more u :=
  ⟨setScript l s,
    ⟨(step_cons h.script).trans (congrArg _ (skipIfErr_of_ok (s := setScript l s) h.err n)), rfl, rfl⟩,
    ⟨h.callv, h.kidx, h.cmd, h.tx, h.sec, h.explen, h.err, rfl, h.inbox⟩⟩

/-! ### The exchange and the consumer -/

/-- `s` after its exchange was answered. -/
def answered (c : Call) (l : List HostAction) (more : List (Option (List Byte))) (s : State) : State :=
  { s with
    rx := c.answer
    env := { s.env with
      script := l, inbox := more, hostErr := 0
      events := s.env.events ++ [.exchange c.frame c.explen.toNat (some c.answer)] } }

/-- The exchange of an open call (R115). -/
theorem Opened.step_exchange (h : Opened c (.xchg :: l) more s) : step s = .next (answered c l more s) := by
  have hcut : c.answer.take 258 = c.answer := List.take_of_length_le (Nat.succ_le_succ c.fits)
  have hx := transact_answer (s := setScript l s) h.inbox s.tx s.explen.toNat
  rw [hcut] at hx
  rw [answered, ← h.tx, ← h.explen, step_cons h.script]
  exact (exchange_eq_transact _).trans (congrArg _ hx)

/-- Where the consumer starts its tail: the whole response is in `PAY` (R180). -/
def validated (c : Call) (l : List HostAction) (more : List (Option (List Byte))) (s : State) : State :=
  { answered c l more s with
    opw := consumerWord c.k, err := 0, pay := c.response, payv := true, sumv := false, stv := false, idv := false }

/-- The consumer of an open call validates the answer, and its tail runs (R180). -/
theorem Opened.consume {tail : State → State} (h : Opened c l more s) :
    consume c.k tail { answered c rest more s with opw := consumerWord c.k } = tail (validated c rest more s) := by
  have hopen := consume_open (tail := tail) (s := { answered c rest more s with opw := consumerWord c.k }) h.callv
    h.kidx
  rw [hopen, validateThen_ok tail (d := c.response), delivered_eq]
  · rfl
  · exact congrArg (fun b => ackByte b :: c.response) h.cmd.symm
  · exact (congrArg BitVec.toNat h.explen).trans c.length

/-- The last two steps of a call run the consumer's tail on the response (R115, R190). -/
theorem Opened.run {tail : State → State} (h : Opened c (.xchg :: opAction (consumerWord c.k) :: rest) more s)
    (hk : ConsumesWith c.k tail) : core.run 2 s = .next (tail (validated c rest more s)) := by
  have hconsume : step (answered c (opAction (consumerWord c.k) :: rest) more s)
      = .next (tail (validated c rest more s)) := by
    rw [step_opAction rfl, hk]
    exact congrArg _ h.consume
  rw [run_succ h.step_exchange, run_succ hconsume]
  rfl

/-- No tail: the response is delivered as it came (R180). -/
theorem Opened.delivers_response (h : Opened c (.xchg :: opAction (consumerWord c.k) :: rest) more s)
    (hk : ConsumesWith c.k id) : ∃ t, CallDelivers 2 s t rest more c.frame c.explen.toNat c.answer c.response :=
  ⟨_, h.run hk, rfl, rfl, rfl, rfl, rfl⟩

/-- The CHECKSUM tail: the data are delivered without the trailing byte (R180). -/
theorem Opened.delivers_data (h : Opened c (.xchg :: opAction (consumerWord c.k) :: rest) more s)
    (hk : ConsumesWith c.k verifyPayload) (hd : c.response = d ++ [checksum d c.secondary]) :
    ∃ t, CallDelivers 2 s t rest more c.frame c.explen.toNat c.answer d := by
  have hpay : (validated c rest more s).pay = d ++ [checksum d (validated c rest more s).sec] :=
    hd.trans (congrArg (fun q => d ++ [checksum d q]) h.sec.symm)
  exact ⟨_, (h.run hk).trans (congrArg _ (verifyPayload_ok hpay)), rfl, rfl, rfl, rfl, rfl⟩

/-- The STATUS tail: the record is delivered, and its fields in `ST` (R180). -/
theorem Opened.delivers_status (h : Opened c (.xchg :: opAction (consumerWord c.k) :: rest) more s)
    (hk : ConsumesWith c.k unpackStatus) (hd : c.response.length = 11) :
    ∃ t, CallDelivers 2 s t rest more c.frame c.explen.toNat c.answer c.response
      ∧ t.stv = true ∧ decodeStatus c.response = .ok t.st := by
  rcases unpackStatus_cases (validated c rest more s) with ⟨-, ht⟩ | ⟨hne, -⟩
  · exact ⟨_, ⟨(h.run hk).trans (congrArg _ ht), rfl, rfl, rfl, rfl, rfl⟩, rfl, if_neg (not_not.mpr hd)⟩
  · exact absurd hd hne

/-- The DEVID tail: the record is delivered, and its fields in `ID` (R180). -/
theorem Opened.delivers_devId (h : Opened c (.xchg :: opAction (consumerWord c.k) :: rest) more s)
    (hk : ConsumesWith c.k unpackDevId) (hd : c.response.length = 9) :
    ∃ t, CallDelivers 2 s t rest more c.frame c.explen.toNat c.answer c.response
      ∧ t.idv = true ∧ decodeDeviceId c.response = .ok t.devId := by
  rcases unpackDevId_cases (validated c rest more s) with ⟨-, ht⟩ | ⟨hne, -⟩
  · exact ⟨_, ⟨(h.run hk).trans (congrArg _ ht), rfl, rfl, rfl, rfl, rfl⟩, rfl, if_neg (not_not.mpr hd)⟩
  · exact absurd hd hne

/-! ### The calls -/

/-- `CALL.PING`, `CALL.RESET`, `CALL.INIT`, `CALL.EXIT`. -/
theorem callBare_delivers_nothing (hk : k ∈ [(0 : Fin 9), 1, 2, 4]) (hs : s.env.script = callBare k ++ rest)
    (hin : s.env.inbox = some [ackByte (Config.cmdCode k)] :: more) :
    ∃ t, CallDelivers 3 s t rest more [Config.cmdCode k] 1 [ackByte (Config.cmdCode k)] [] := by
  obtain ⟨u, hq, hopen⟩ := quietStep_builder (c := ⟨k, [], [], 1, [], rfl, Nat.zero_le _⟩)
    hs hin (buildsWith_bare hk _)
  obtain ⟨t, ht⟩ := hopen.delivers_response (consumesWith_bare hk)
  exact ⟨t, ht.of_quietStep hq⟩

/-- `CALL.GETST`. -/
theorem callGetst_delivers (hd : d.length = 11) (hs : s.env.script = callBare 3 ++ rest)
    (hin : s.env.inbox = some (ackByte (Config.cmdCode 3) :: d) :: more) :
    ∃ t, CallDelivers 3 s t rest more [Config.cmdCode 3] 12 (ackByte (Config.cmdCode 3) :: d) d
      ∧ t.stv = true ∧ decodeStatus d = .ok t.st := by
  obtain ⟨u, hq, hopen⟩ := quietStep_builder (c := ⟨3, [], [], 12, d, by simp [hd], by omega⟩)
    hs hin (buildsWith_getst _)
  obtain ⟨t, ht, hst⟩ := hopen.delivers_status consumesWith_getst hd
  exact ⟨t, ht.of_quietStep hq, hst⟩

/-- `CALL.RDID`. -/
theorem callRdid_delivers (hd : d.length = 9) (hs : s.env.script = callBare 6 ++ rest)
    (hin : s.env.inbox = some (ackByte (Config.cmdCode 6) :: d) :: more) :
    ∃ t, CallDelivers 3 s t rest more [Config.cmdCode 6] 10 (ackByte (Config.cmdCode 6) :: d) d
      ∧ t.idv = true ∧ decodeDeviceId d = .ok t.devId := by
  obtain ⟨u, hq, hopen⟩ := quietStep_builder (c := ⟨6, [], [], 10, d, by simp [hd], by omega⟩)
    hs hin (buildsWith_rdid _)
  obtain ⟨t, ht, hid⟩ := hopen.delivers_devId consumesWith_rdid hd
  exact ⟨t, ht.of_quietStep hq, hid⟩

/-- `CALL.RDFL`, once the operands are in `ADDR` and `LEN`. -/
theorem callReadFlash_delivers (hlen : s.len ≤ Config.maxReadLen) (hd : d.length = s.len.toNat)
    (hs : s.env.script = opAction (builderWord 5) :: .skipIfErr 2 :: .xchg :: opAction (consumerWord 5) :: rest)
    (hin : s.env.inbox
      = some (ackByte (Config.cmdCode 5) :: (d ++ [checksum d [addrHi s, addrLo s]])) :: more) :
    ∃ t, CallDelivers 4 s t rest more [Config.cmdCode 5, addrHi s, addrLo s, s.len] (2 + s.len.toNat)
      (ackByte (Config.cmdCode 5) :: (d ++ [checksum d [addrHi s, addrLo s]])) d := by
  have hbound := s.len.isLt
  have hlength : (d ++ [checksum d [addrHi s, addrLo s]]).length = s.len.toNat + 1 := by simp [hd]
  have hexplen := explen_readFlash s.len
  obtain ⟨u, hq, hopen⟩ := quietStep_builder
    (c := ⟨5, [addrHi s, addrLo s, s.len], [addrHi s, addrLo s], 2 + s.len.setWidth 9,
      d ++ [checksum d [addrHi s, addrLo s]], by omega, by omega⟩)
    hs hin (buildsWith_rdfl hlen)
  obtain ⟨v, hq', hopen'⟩ := hopen.skipIfErr
  obtain ⟨t, ht⟩ := hopen'.delivers_data consumesWith_rdfl rfl
  exact ⟨t, hexplen ▸ (ht.of_quietStep hq').of_quietStep hq⟩

/-- `CALL.WRPS`, once the operands are in `ADDR` and `WVAL`. -/
theorem callWriteStore_delivers (hs : s.env.script = callBare 7 ++ rest)
    (hin : s.env.inbox = some [ackByte (Config.cmdCode 7), checksum [] [s.wval, addrHi s, addrLo s]] :: more) :
    ∃ t, CallDelivers 3 s t rest more [Config.cmdCode 7, addrHi s, addrLo s, s.wval] 2
      [ackByte (Config.cmdCode 7), checksum [] [s.wval, addrHi s, addrLo s]] [] := by
  obtain ⟨u, hq, hopen⟩ := quietStep_builder
    (c := ⟨7, [addrHi s, addrLo s, s.wval], [s.wval, addrHi s, addrLo s], 2,
      [checksum [] [s.wval, addrHi s, addrLo s]], rfl, by simp⟩) hs hin (buildsWith_wrps _)
  obtain ⟨t, ht⟩ := hopen.delivers_data (d := []) consumesWith_wrps rfl
  exact ⟨t, ht.of_quietStep hq⟩

/-- `CALL.RDPS`, once the operand is in `ADDR`. -/
theorem callReadStore_delivers {b : Byte} (hs : s.env.script = callBare 8 ++ rest)
    (hin : s.env.inbox = some [ackByte (Config.cmdCode 8), b, checksum [b] [addrHi s, addrLo s]] :: more) :
    ∃ t, CallDelivers 3 s t rest more [Config.cmdCode 8, addrHi s, addrLo s] 3
      [ackByte (Config.cmdCode 8), b, checksum [b] [addrHi s, addrLo s]] [b] := by
  obtain ⟨u, hq, hopen⟩ := quietStep_builder
    (c := ⟨8, [addrHi s, addrLo s], [addrHi s, addrLo s], 3, [b, checksum [b] [addrHi s, addrLo s]], rfl, by simp⟩)
    hs hin (buildsWith_rdps _)
  obtain ⟨t, ht⟩ := hopen.delivers_data (d := [b]) consumesWith_rdps rfl
  exact ⟨t, ht.of_quietStep hq⟩

end

/-- Settles O59: each call is its quiet steps and then an open call; the operands written first are the ones in the
peer's answer. -/
theorem aWholeCallDeliversThePeersData : Obligations.AWholeCallDeliversThePeersData := by
  refine ⟨fun k hk s rest more hs hin => callBare_delivers_nothing hk hs hin,
    fun s d rest more hd hs hin => callGetst_delivers hd hs hin,
    fun s d rest more hd hs hin => callRdid_delivers hd hs hin, ?_, ?_, ?_,
    fun n s he => congrArg _ (skipIfErr_of_err he n), fun n s he => congrArg _ (skipIfErr_of_ok he n)⟩
  · rintro a n d r s rest more hn hd rfl hs hin
    have haddr := quietStep_wrAddr hs
    have hlen := quietStep_wrLen (congrArg Env.script haddr.env)
    obtain ⟨t, ht⟩ := callReadFlash_delivers hn hd (congrArg Env.script hlen.env) hin
    exact ⟨t, (ht.of_quietStep hlen).of_quietStep haddr⟩
  · rintro a v r s rest more rfl hs hin
    have haddr := quietStep_wrAddr hs
    have hwval := quietStep_wrWval (congrArg Env.script haddr.env)
    obtain ⟨t, ht⟩ := callWriteStore_delivers (congrArg Env.script hwval.env) hin
    exact ⟨t, (ht.of_quietStep hwval).of_quietStep haddr⟩
  · rintro a d r s rest more rfl hs hin
    have haddr := quietStep_wrAddr hs
    obtain ⟨t, ht⟩ := callReadStore_delivers (congrArg Env.script haddr.env) hin
    exact ⟨t, ht.of_quietStep haddr⟩

end Sys2Proof.Machine
end

section
/-! PROOF. The checksum unit: the byte sum and its laws, `strip_verify` on sequences, and the outcomes of `CSUM` and
`CSV`. -/

namespace Sys2Proof.Machine

/-! ### The byte sum -/

/-- The sum as a number (R130). -/
theorem checksum_toNat (d a : List Byte) :
    (checksum d a).toNat = ((d.map BitVec.toNat).sum + (a.map BitVec.toNat).sum) % 256 :=
  BitVec.toNat_ofNat _ 8

/-- Law 1 of R131: the sum runs on from one sequence into the other. -/
theorem checksum_eq_checksum_append (d a : List Byte) : checksum d a = checksum (d ++ a) [] := by
  simp [checksum]

/-- Law 2 of R131: the order of the sequences. -/
theorem checksum_comm (d a : List Byte) : checksum d a = checksum a d :=
  congrArg (BitVec.ofNat 8) (Nat.add_comm _ _)

/-- Law 2 of R131: the order of the bytes inside the sequences. -/
theorem checksum_perm {d d' a a' : List Byte} (hd : d.Perm d') (ha : a.Perm a') :
    checksum d' a' = checksum d a := by
  simp only [checksum, (hd.map BitVec.toNat).sum_eq, (ha.map BitVec.toNat).sum_eq]

/-- Law 4 of R131: the running form. -/
theorem checksum_concat (d : List Byte) (b : Byte) (a : List Byte) :
    checksum (d ++ [b]) a = checksum d a + b := by
  apply BitVec.eq_of_toNat_eq
  rw [BitVec.toNat_add, checksum_toNat, checksum_toNat, List.map_append, List.sum_append, List.map_singleton,
    List.sum_singleton]
  omega

/-- Settles O9. -/
theorem checksumLaws : Obligations.ChecksumLaws := fun d a =>
  ⟨checksum_toNat d a, checksum_eq_checksum_append d a, checksum_comm d a, fun _ _ hd ha => checksum_perm hd ha,
    rfl, fun b => checksum_concat d b a⟩

/-! ### Verification of the trailing byte -/

/-- `strip_verify` on a payload with a trailing byte (R134). -/
theorem stripVerify_concat (d : List Byte) (c : Byte) (s : List Byte) :
    stripVerify (d ++ [c]) s = if checksum d s = c then .ok d else .error .checksumError := by
  simp [stripVerify]

/-- Settles O10: the trailing byte is compared with the checksum of the bytes before it. -/
theorem stripVerifyAcceptsExactlyTheChecksum : Obligations.StripVerifyAcceptsExactlyTheChecksum := by
  refine fun s => ⟨rfl, fun d c => ⟨fun hc => ?_, fun hc => ?_⟩⟩
  · rw [stripVerify_concat, if_pos hc.symm]
  · rw [stripVerify_concat, if_neg hc.symm]

/-! ### CSUM and CSV -/

/-- `CSUM` with a payload (R132). -/
theorem csum_of_payv {s : State} (h : s.payv = true) : csum s = setSum (checksum s.pay s.sec) (startOp s) :=
  if_pos h

/-- `CSUM` without a payload (R132). -/
theorem csum_of_not_payv {s : State} (h : s.payv = false) :
    csum s = raise .sequenceError { startOp s with sumv := false } :=
  if_neg (by simp [h])

/-- Settles O11: the two cases of `PAYV`. -/
theorem csumWritesTheChecksumOfPayAndSec : Obligations.CsumWritesTheChecksumOfPayAndSec := by
  refine fun s => ⟨fun h => ?_, fun h => ?_⟩
  · exact congrArg Host.Outcome.next (csum_of_payv h)
  · exact congrArg Host.Outcome.next (csum_of_not_payv h)

/-- `CSV` with a payload (R133). -/
theorem csv_of_payv {s : State} (h : s.payv = true) : csv s = verifyPayload (invalidateDerived (startOp s)) :=
  if_pos h

/-- `CSV` without a payload (R133). -/
theorem csv_of_not_payv {s : State} (h : s.payv = false) :
    csv s = raise .sequenceError (invalidateDerived (startOp s)) :=
  if_neg (by simp [h])

/-- Settles O12: `PAYV`, and then the three cases of checksum verification. -/
theorem csvVerifiesAndStripsTheTrailingByte : Obligations.CsvVerifiesAndStripsTheTrailingByte := by
  refine fun s => ⟨fun h => ?_, fun h hp => ?_, fun d c h hp hc => ?_, fun d c h hp hc => ?_⟩ <;>
    apply congrArg Host.Outcome.next
  · exact (csv_of_not_payv h).trans (raise_invalidated_eq _ s)
  · calc
      csv s = verifyPayload (invalidateDerived (startOp s)) := csv_of_payv h
      _ = raise .checksumError (dropPayload (invalidateDerived (startOp s))) := verifyPayload_empty hp
      _ = _ := by rw [raise_dropped_eq, ← hp]; rfl
  · subst hc
    exact (csv_of_payv h).trans (verifyPayload_ok hp)
  · calc
      csv s = verifyPayload (invalidateDerived (startOp s)) := csv_of_payv h
      _ = raise .checksumError (dropPayload (setSum (checksum d s.sec) (invalidateDerived (startOp s)))) :=
        verifyPayload_wrong hp hc
      _ = _ := raise_wrong_sum_eq _ _

end Sys2Proof.Machine
end

section
/-! PROOF. The frame codec: validation and its round trip, and the outcomes of `ENC` and `VAL`. -/

namespace Sys2Proof.Machine

/-! ### Validation of a response -/

/-- Settles O14: the tests of R141, one lemma each; in the last two the first byte is the acknowledgement byte. -/
theorem validateResponseTestsInOrder : Obligations.ValidateResponseTestsInOrder := by
  refine fun c n => ⟨validateResponse_nil c n, fun a d => ⟨fun ha => ?_, fun ha hn => ?_, fun ha hn => ?_⟩⟩
  · exact validateResponse_wrong_ack d n ha
  · subst ha
    exact validateResponse_wrong_length c hn
  · subst ha
    exact validateResponse_ok c hn

/-- Settles O15: the expected length is that of the response. -/
theorem codecRoundTrip : Obligations.CodecRoundTrip :=
  fun c _ _ => ⟨validateResponse_ok c (Nat.add_comm _ 1), rfl⟩

/-- Settles O16: one byte short and one byte long are both a wrong length. -/
theorem oneByteShortOrLongIsLengthMismatch : Obligations.OneByteShortOrLongIsLengthMismatch := by
  intro c d n h
  have hn : d.length + 1 ≠ n := by
    simp only [List.singleton_append, List.length_cons] at h
    omega
  exact validateResponse_wrong_length c hn

/-! ### ENC and VAL -/

/-- Settles O13: a frame is written from the state with `ERR` cleared. -/
theorem encWritesCommandAndPayloadToTx : Obligations.EncWritesCommandAndPayloadToTx :=
  fun _ => rfl

/-- The validate step on a response that does not validate (R143, R180). -/
theorem validateThen_error (rest : State → State) {s : State} {k : ErrKind}
    (h : validateResponse s.cmd s.rx s.explen.toNat = .error k) : validateThen rest s = raise k s := by
  unfold validateThen
  rw [h]

section

variable {s : State}

/-- `VAL` with an `EXPLEN` that no response held in `RX` can be known to have (R143). -/
theorem val_of_explen_gt (h : 257 < s.explen.toNat) :
    val s = raise .invalidArgument (dropPayload (invalidateDerived (startOp s))) :=
  if_pos h

/-- `VAL` past its guard is the validate step with nothing after it (R143). -/
theorem val_of_explen_le (h : s.explen.toNat ≤ 257) :
    val s = validateThen id (dropPayload (invalidateDerived (startOp s))) :=
  if_neg (Nat.not_lt.mpr h)

/-- `VAL` on a response that does not validate, whole (R143). -/
theorem val_of_error {k : ErrKind} (h : s.explen.toNat ≤ 257)
    (hr : validateResponse s.cmd s.rx s.explen.toNat = .error k) :
    val s = { s with err := k.code, estk := s.estk ||| stickyBit k.code, pay := [], payv := false
                     sumv := false, stv := false, idv := false } :=
  calc
    val s = validateThen id (dropPayload (invalidateDerived (startOp s))) := val_of_explen_le h
    _ = raise k (dropPayload (invalidateDerived (startOp s))) := validateThen_error id hr
    _ = _ := raise_dropped_eq k s

/-- `VAL` on a response that validates, whole (R143). -/
theorem val_of_ok {d : List Byte} (h : s.explen.toNat ≤ 257) (hrx : s.rx = ackByte s.cmd :: d)
    (hn : s.explen.toNat = d.length + 1) :
    val s = { s with err := 0, pay := d, payv := true, sumv := false, stv := false, idv := false } :=
  calc
    val s = validateThen id (dropPayload (invalidateDerived (startOp s))) := val_of_explen_le h
    _ = deliverPayload d (dropPayload (invalidateDerived (startOp s))) := validateThen_ok id hrx hn
    _ = _ := delivered_eq d s

end

/-- Settles O60. -/
theorem valCompletesOnAResponseThatValidates : Obligations.ValCompletesOnAResponseThatValidates :=
  fun _ _ h hrx hn => congrArg Host.Outcome.next (val_of_ok h hrx hn)

/-- Settles O17: the guard, and then the tests of validation in their order (R141). -/
theorem valValidatesAndUnwrapsTheResponse : Obligations.ValValidatesAndUnwrapsTheResponse := by
  refine fun s => ⟨fun h => ?_, fun h hrx => ?_, fun a d h hrx => ⟨fun ha => ?_, fun ha hn => ?_, fun ha hn => ?_⟩⟩ <;>
    apply congrArg Host.Outcome.next
  · exact (val_of_explen_gt h).trans (raise_dropped_eq _ s)
  · exact val_of_error h (hrx ▸ validateResponse_nil _ _)
  · exact val_of_error h (hrx ▸ validateResponse_wrong_ack d _ ha)
  · subst ha
    exact val_of_error h (hrx ▸ validateResponse_wrong_length _ hn)
  · subst ha
    exact val_of_ok h hrx hn.symm

end Sys2Proof.Machine
end

section
/-! PROOF. The record unpacker: which inputs the two decoders answer, and the outcomes of `DST` and `DID`. -/

namespace Sys2Proof.Machine

/-! ### The decoders -/

section

variable {b : List Byte}

/-- `decode_status` on an input of its width (R150). -/
theorem decodeStatus_of_length (h : b.length = 11) : decodeStatus b = .ok (statusFields b) :=
  if_neg (not_not.mpr h)

/-- `decode_status` on any other input (R150). -/
theorem decodeStatus_of_length_ne (h : b.length ≠ 11) : decodeStatus b = .error .bufferSizeMismatch :=
  if_pos h

/-- `decode_device_id` on an input of its width (R151). -/
theorem decodeDeviceId_of_length (h : b.length = 9) : decodeDeviceId b = .ok (devIdFields b) :=
  if_neg (not_not.mpr h)

/-- `decode_device_id` on any other input (R151). -/
theorem decodeDeviceId_of_length_ne (h : b.length ≠ 9) : decodeDeviceId b = .error .bufferSizeMismatch :=
  if_pos h

end

/-- What answers a record under a condition and an error without it answers a record just then. -/
theorem exists_eq_ok_iff {α : Type} {p : Prop} {x : Except ErrKind α} {r : α} {k : ErrKind}
    (hok : p → x = .ok r) (herr : ¬ p → x = .error k) : (∃ r, x = .ok r) ↔ p := by
  refine ⟨fun ⟨r', hr'⟩ => ?_, fun hp => ⟨r, hok hp⟩⟩
  by_contra hp
  cases (herr hp).symm.trans hr'

/-- Settles O21: each decoder answers its fields on its width, and its one error elsewhere. -/
theorem onlyTheExactWidthDecodes : Obligations.OnlyTheExactWidthDecodes := fun _ =>
  ⟨exists_eq_ok_iff decodeStatus_of_length decodeStatus_of_length_ne, decodeStatus_of_length_ne,
    exists_eq_ok_iff decodeDeviceId_of_length decodeDeviceId_of_length_ne, decodeDeviceId_of_length_ne⟩

/-- A 16-bit field as a number: the byte at the lower offset is the less significant (R116). -/
theorem recordWord_eq_ofNat (b : List Byte) (o : Nat) :
    recordWord b o = BitVec.ofNat 16 ((byteAt b o).toNat + 256 * (byteAt b (o + 1)).toNat) := by
  have hlo := (byteAt b o).isLt
  have hhi := (byteAt b (o + 1)).isLt
  have hsplit := Nat.shiftLeft_add_eq_or_of_lt hlo (byteAt b (o + 1)).toNat
  apply BitVec.eq_of_toNat_eq
  simp only [recordWord, BitVec.toNat_or, BitVec.toNat_shiftLeft, BitVec.toNat_setWidth, BitVec.toNat_ofNat]
  rw [Nat.shiftLeft_eq] at hsplit ⊢
  rw [Nat.mod_eq_of_lt (by omega), Nat.mod_eq_of_lt (by omega), Nat.mod_eq_of_lt (by omega), Nat.or_comm, ← hsplit]
  omega

/-! ### DST and DID -/

section

variable {s : State}

/-- `DST` on a payload that decodes, whole (R152). -/
theorem dst_of_ok {r : StatusRec} (h : s.payv = true) (hr : decodeStatus s.pay = .ok r) :
    dst s = { s with err := 0, st := r, stv := true } :=
  calc
    dst s = unpackStatus { startOp s with stv := false } := if_pos h
    _ = { s with err := 0, st := r, stv := true } := by simp only [unpackStatus, startOp, hr]

/-- `DST` on a payload of another width (R152). -/
theorem dst_of_length_ne (h : s.payv = true) (hlen : s.pay.length ≠ 11) :
    dst s = raise .bufferSizeMismatch { startOp s with stv := false } :=
  calc
    dst s = unpackStatus { startOp s with stv := false } := if_pos h
    _ = _ := by simp only [unpackStatus, startOp, decodeStatus_of_length_ne hlen]

/-- `DST` without a payload (R152). -/
theorem dst_of_not_payv (h : s.payv = false) : dst s = raise .sequenceError { startOp s with stv := false } :=
  if_neg (by simp [h])

/-- `DID` on a payload that decodes, whole (R153). -/
theorem did_of_ok {r : DevIdRec} (h : s.payv = true) (hr : decodeDeviceId s.pay = .ok r) :
    did s = { s with err := 0, devId := r, idv := true } :=
  calc
    did s = unpackDevId { startOp s with idv := false } := if_pos h
    _ = { s with err := 0, devId := r, idv := true } := by simp only [unpackDevId, startOp, hr]

/-- `DID` on a payload of another width (R153). -/
theorem did_of_length_ne (h : s.payv = true) (hlen : s.pay.length ≠ 9) :
    did s = raise .bufferSizeMismatch { startOp s with idv := false } :=
  calc
    did s = unpackDevId { startOp s with idv := false } := if_pos h
    _ = _ := by simp only [unpackDevId, startOp, decodeDeviceId_of_length_ne hlen]

/-- `DID` without a payload (R153). -/
theorem did_of_not_payv (h : s.payv = false) : did s = raise .sequenceError { startOp s with idv := false } :=
  if_neg (by simp [h])

end

/-- Settles O18: the fields of eleven bytes, with the two addresses as numbers, and the two errors. -/
theorem dstUnpacksTheStatusRecord : Obligations.DstUnpacksTheStatusRecord := by
  refine fun s => ⟨fun b0 b1 b2 f e b5 b6 b7 b8 b9 b10 h hpay => ?_, fun h hlen => ?_, fun h => ?_⟩ <;>
    apply congrArg Host.Outcome.next
  · refine dst_of_ok h ?_
    rw [hpay, decodeStatus_of_length rfl, statusFields, recordWord_eq_ofNat, recordWord_eq_ofNat]
    rfl
  · exact dst_of_length_ne h hlen
  · exact dst_of_not_payv h

/-- Settles O19: the fields of nine bytes, and the two errors. -/
theorem didUnpacksTheDeviceIdentificationRecord : Obligations.DidUnpacksTheDeviceIdentificationRecord := by
  refine fun s => ⟨fun b0 b1 b2 b3 b4 b5 b6 b7 b8 h hpay => ?_, fun h hlen => ?_, fun h => ?_⟩ <;>
    apply congrArg Host.Outcome.next
  · refine did_of_ok h ?_
    rw [hpay, decodeDeviceId_of_length rfl]
    rfl
  · exact did_of_length_ne h hlen
  · exact did_of_not_payv h

end Sys2Proof.Machine
end

section
/-! PROOF. The request builders: each is one `buildRequest` on its operands; `RQ.RDFL` may raise instead (R160 to
R170). -/

namespace Sys2Proof.Machine

/-! ### The builders without a precondition -/

/-- Settles O22: each is `buildRequest` with the constants of its row. -/
theorem bareBuildersOpenTheirCall : Obligations.BareBuildersOpenTheirCall := by
  intro p hp s
  simp only [List.mem_cons, List.not_mem_nil, or_false] at hp
  rcases hp with rfl | rfl | rfl | rfl | rfl | rfl <;> exact congrArg Host.Outcome.next (buildRequest_eq _ [] [] _ s)

/-- Settles O24: the bytes of the address and the value are the operands of the two builders. -/
theorem storeBuildersOpenTheirCall : Obligations.StoreBuildersOpenTheirCall := fun s =>
  ⟨congrArg Host.Outcome.next (buildRequest_eq 7 [addrHi s, addrLo s, s.wval] [s.wval, addrHi s, addrLo s] 2 s),
    congrArg Host.Outcome.next (buildRequest_eq 8 [addrHi s, addrLo s] [addrHi s, addrLo s] 3 s)⟩

/-! ### The flash read -/

/-- The expected length of a flash read does not wrap in the 9 bits of `EXPLEN` (R104). -/
theorem ofNat_explen_readFlash (n : Byte) : BitVec.ofNat 9 (2 + n.toNat) = 2 + n.setWidth 9 := by
  rw [← explen_readFlash, BitVec.ofNat_toNat, BitVec.setWidth_eq]

/-- A flash read up to the largest length `m`, whole (R166). -/
theorem buildReadFlashWith_of_le {m : Byte} {s : State} (h : s.len ≤ m) : buildReadFlashWith m s =
    { s with err := 0, cmd := Config.cmdCode 5
             pl := [s.addr.extractLsb' 8 8, s.addr.extractLsb' 0 8, s.len]
             sec := [s.addr.extractLsb' 8 8, s.addr.extractLsb' 0 8]
             explen := BitVec.ofNat 9 (2 + s.len.toNat)
             tx := [Config.cmdCode 5, s.addr.extractLsb' 8 8, s.addr.extractLsb' 0 8, s.len]
             txv := true, kidx := 5, callv := true
             rx := [], pay := [], payv := false, sumv := false, stv := false, idv := false } := by
  rw [buildReadFlashWith, if_pos h, buildRequest_eq, ofNat_explen_readFlash]
  rfl

/-- A longer one, whole (R160, R166, R206). -/
theorem buildReadFlashWith_of_lt {m : Byte} {s : State} (h : m < s.len) : buildReadFlashWith m s =
    { s with err := 6, estk := s.estk ||| 0x20, tx := [], txv := false, callv := false
             rx := [], pay := [], payv := false, sumv := false, stv := false, idv := false } := by
  rw [buildReadFlashWith, if_neg (BitVec.not_le.mpr h), raise_beginCall_eq]
  rfl

/-- It raises exactly when the read is too long (R166). -/
theorem buildReadFlashWith_err_eq_six_iff (m : Byte) (s : State) : (buildReadFlashWith m s).err = 6 ↔ m < s.len := by
  by_cases h : m < s.len
  · simp only [buildReadFlashWith_of_lt h, h]
  · simp only [buildReadFlashWith_of_le (BitVec.not_lt.mp h), h, iff_false]
    decide

/-- Settles O23: both cases at `MAX_READ_LEN`, from the cases at every value of the parameter. -/
theorem readFlashBuilderOpensItsCallOrRefuses : Obligations.ReadFlashBuilderOpensItsCallOrRefuses :=
  ⟨fun _ h => congrArg Host.Outcome.next (buildReadFlashWith_of_le h), fun _ => rfl, fun m s =>
    ⟨buildReadFlashWith_err_eq_six_iff m s, buildReadFlashWith_of_lt, buildReadFlashWith_of_le⟩⟩

/-! ### Nothing but the operands -/

/-- From two states with the same operands a builder makes the same context and frame, or refuses in both (R170). -/
theorem exec_builder_of_sameOperands {i : Instr} (hi : i ∈ builders) {s s' : State} (haddr : s.addr = s'.addr)
    (hlen : s.len = s'.len) (hwval : s.wval = s'.wval) :
    (∃ k p q n, exec i s = .next (buildRequest k p q n s) ∧ exec i s' = .next (buildRequest k p q n s'))
    ∨ (exec i s = .next (raise .invalidArgument (beginCall (startOp s)))
        ∧ exec i s' = .next (raise .invalidArgument (beginCall (startOp s')))) := by
  have hhi : addrHi s' = addrHi s := congrArg (BitVec.extractLsb' 8 8) haddr.symm
  have hlo : addrLo s' = addrLo s := congrArg (BitVec.extractLsb' 0 8) haddr.symm
  cases i with
  | rqPing | rqReset | rqInit | rqGetst | rqExit | rqRdid => exact .inl ⟨_, _, _, _, rfl, rfl⟩
  | rqRdfl =>
    by_cases h : s.len ≤ Config.maxReadLen
    · refine .inl ⟨_, _, _, _, congrArg _ (buildReadFlash_of_le h), ?_⟩
      rw [← hhi, ← hlo, hlen]
      exact congrArg _ (buildReadFlash_of_le (hlen ▸ h))
    · exact .inr ⟨congrArg _ (buildReadFlash_of_not_le h), congrArg _ (buildReadFlash_of_not_le (hlen ▸ h))⟩
  | rqWrps =>
    refine .inl ⟨_, _, _, _, rfl, ?_⟩
    rw [← hhi, ← hlo, hwval]
    rfl
  | rqRdps =>
    refine .inl ⟨_, _, _, _, rfl, ?_⟩
    rw [← hhi, ← hlo]
    rfl
  | _ => simp [builders] at hi

/-- Settles O25: a request opened with one context and one frame shows them whatever the state before, and so does a
refusal its error. -/
theorem buildersDependOnlyOnTheirOperands : Obligations.BuildersDependOnlyOnTheirOperands := by
  intro i hi s s' haddr hlen hwval
  rcases exec_builder_of_sameOperands hi haddr hlen hwval with ⟨k, p, q, n, hs, hs'⟩ | ⟨hs, hs'⟩
  · exact ⟨_, _, hs, hs', rfl, rfl, rfl, fun _ => ⟨rfl, rfl, rfl, rfl, rfl⟩⟩
  · exact ⟨_, _, hs, hs', rfl, rfl, rfl, fun herr => absurd herr (by decide : ErrKind.invalidArgument.code ≠ 0)⟩

end Sys2Proof.Machine
end

section
/-! PROOF. The response consumers: what a consumer does on each answer of validation, the outcomes of each tail, the
consumer issued twice, and the round trip of a call (R180 to R190). -/

namespace Sys2Proof.Machine

/-! ### A consumer with its call open -/

/-- In `s` the call of command k is open, and validation of the response in `RX` answers `v` (R141, R180). -/
structure ResponseIs (k : Fin 9) (v : Except ErrKind (List Byte)) (s : State) : Prop where
  callv : s.callv = true
  kidx : s.kidx = indexBits k
  response : validateResponse s.cmd s.rx s.explen.toNat = v

/-- Where a consumer starts its tail: the payload `d` is delivered (R180). -/
def delivered (d : List Byte) (s : State) : State :=
  { s with err := 0, pay := d, payv := true, sumv := false, stv := false, idv := false }

@[simp] theorem delivered_pay (d : List Byte) (s : State) : (delivered d s).pay = d := rfl
@[simp] theorem delivered_sec (d : List Byte) (s : State) : (delivered d s).sec = s.sec := rfl

section

variable {k : Fin 9} {s t : State} {d : List Byte} {tail : State → State}

/-- The acknowledgement byte and the rest of a response of the expected length validate (R141). -/
theorem ResponseIs.ok (hc : s.callv = true) (hk : s.kidx = indexBits k) (hrx : s.rx = ackByte s.cmd :: d)
    (hn : s.explen.toNat = d.length + 1) : ResponseIs k (.ok d) s :=
  ⟨hc, hk, hrx ▸ validateResponse_ok s.cmd hn.symm⟩

/-- The registers of the call decide which call is open and how its response validates. -/
theorem ResponseIs.of_callRegisters {v : Except ErrKind (List Byte)} (h : ResponseIs k v s)
    (ht : callRegisters t = callRegisters s) : ResponseIs k v t := by
  simp only [callRegisters, Prod.mk.injEq] at ht
  obtain ⟨hrx, hcmd, hexplen, -, -, hkidx, hcallv, -⟩ := ht
  exact ⟨hcallv.trans h.callv, hkidx.trans h.kidx, by rw [hcmd, hrx, hexplen, h.response]⟩

/-- The validate step on a response that validates, by what validation answers (R143, R180). -/
theorem validateThen_of_ok (rest : State → State)
    (h : validateResponse s.cmd s.rx s.explen.toNat = .ok d) : validateThen rest s = rest (deliverPayload d s) := by
  rw [validateThen, h]

/-- A consumer runs its tail on the payload that validation answers (R180). -/
theorem ResponseIs.consume_ok (h : ResponseIs k (.ok d) s) : consume k tail s = tail (delivered d s) :=
  calc
    consume k tail s = validateThen tail (dropPayload (invalidateDerived (startOp s))) := consume_open h.callv h.kidx
    _ = tail (deliverPayload d (dropPayload (invalidateDerived (startOp s)))) := validateThen_of_ok tail h.response
    _ = tail (delivered d s) := congrArg tail (delivered_eq d s)

/-- A consumer raises the kind that validation answers, whatever its tail (R180). -/
theorem ResponseIs.consume_error {e : ErrKind} (h : ResponseIs k (.error e) s) :
    consume k tail s = raise e (dropPayload (invalidateDerived (startOp s))) :=
  (consume_open h.callv h.kidx).trans (validateThen_error tail h.response)

/-- A refused response, whole (R180). -/
theorem ResponseIs.consume_error_eq {e : ErrKind} (h : ResponseIs k (.error e) s) :
    consume k tail s =
      { s with err := e.code, estk := s.estk ||| stickyBit e.code, pay := [], payv := false
               sumv := false, stv := false, idv := false } :=
  h.consume_error.trans (raise_dropped_eq e s)

/-! ### The tails, whole -/

theorem unpackStatus_of_ok {r : StatusRec} (h : decodeStatus s.pay = .ok r) :
    unpackStatus s = { s with st := r, stv := true } := by
  rw [unpackStatus, h]

theorem unpackStatus_of_error {e : ErrKind} (h : decodeStatus s.pay = .error e) : unpackStatus s = raise e s := by
  rw [unpackStatus, h]

theorem unpackDevId_of_ok {r : DevIdRec} (h : decodeDeviceId s.pay = .ok r) :
    unpackDevId s = { s with devId := r, idv := true } := by
  rw [unpackDevId, h]

theorem unpackDevId_of_error {e : ErrKind} (h : decodeDeviceId s.pay = .error e) : unpackDevId s = raise e s := by
  rw [unpackDevId, h]

/-- The tail NONE (R181, R182, R183, R185). -/
theorem ResponseIs.consume_id (h : ResponseIs k (.ok d) s) : consume k id s =
    { s with err := 0, pay := d, payv := true, sumv := false, stv := false, idv := false } :=
  h.consume_ok

/-- The STATUS tail on a record (R184). -/
theorem ResponseIs.consume_unpackStatus {r : StatusRec} (h : ResponseIs k (.ok d) s) (hr : decodeStatus d = .ok r) :
    consume k unpackStatus s =
      { s with err := 0, pay := d, payv := true, st := r, stv := true, sumv := false, idv := false } :=
  h.consume_ok.trans (unpackStatus_of_ok hr)

/-- The DEVID tail on a record (R187). -/
theorem ResponseIs.consume_unpackDevId {r : DevIdRec} (h : ResponseIs k (.ok d) s) (hr : decodeDeviceId d = .ok r) :
    consume k unpackDevId s =
      { s with err := 0, pay := d, payv := true, devId := r, idv := true, sumv := false, stv := false } :=
  h.consume_ok.trans (unpackDevId_of_ok hr)

/-- The CHECKSUM tail on data and their checksum (R186, R188, R189). -/
theorem ResponseIs.consume_verifyPayload (h : ResponseIs k (.ok (d ++ [checksum d s.sec])) s) :
    consume k verifyPayload s =
      { s with err := 0, pay := d, payv := true, sum := checksum d s.sec, sumv := true
               stv := false, idv := false } :=
  h.consume_ok.trans (verifyPayload_ok rfl)

/-- The CHECKSUM tail on data and another byte (R186, R188, R189, R204). -/
theorem ResponseIs.consume_verifyPayload_wrong {c : Byte} (h : ResponseIs k (.ok (d ++ [c])) s)
    (hc : c ≠ checksum d s.sec) : consume k verifyPayload s =
      { s with err := 4, estk := s.estk ||| 0x08, pay := [], payv := false
               sum := checksum d s.sec, sumv := true, stv := false, idv := false } :=
  calc
    consume k verifyPayload s = verifyPayload (delivered (d ++ [c]) s) := h.consume_ok
    _ = raise .checksumError (dropPayload (setSum (checksum d s.sec) (delivered (d ++ [c]) s))) :=
      verifyPayload_wrong rfl hc
    _ = _ := raise_wrong_sum_eq _ _

/-! ### The same consumer twice -/

/-- Raising a kind once more sets the bit of `ESTK` that is set (R33, R211). -/
theorem sticky_again (e : ErrKind) (b : Byte) :
    b ||| stickyBit e.code ||| stickyBit e.code = b ||| stickyBit e.code := by
  rw [BitVec.or_assoc, BitVec.or_self]

theorem raise_delivered_again (e : ErrKind) (d : List Byte) (s : State) :
    raise e (delivered d (raise e (delivered d s))) = raise e (delivered d s) := by
  simp only [raise, delivered, sticky_again]

/-- The CHECKSUM tail once more on the same payload (R180). -/
theorem verifyPayload_again (d : List Byte) (s : State) :
    verifyPayload (delivered d (verifyPayload (delivered d s))) = verifyPayload (delivered d s) := by
  rcases verifyPayload_cases (delivered d s) with ⟨hp, hr⟩ | ⟨b, hp, hr⟩ | ⟨b, c, hp, hc, hr⟩ <;> rw [hr]
  · rw [delivered_pay] at hp
    refine Eq.trans (verifyPayload_empty hp) ?_
    simp only [raise, dropPayload, delivered, sticky_again]
  · rw [delivered_pay, delivered_sec] at hp
    refine Eq.trans (verifyPayload_ok hp) ?_
    simp only [setSum, delivered]
  · rw [delivered_pay] at hp
    rw [delivered_sec] at hc
    refine Eq.trans (verifyPayload_wrong hp hc) ?_
    simp only [raise, dropPayload, setSum, delivered, sticky_again]

/-- The STATUS tail once more on the same payload (R180). -/
theorem unpackStatus_again (d : List Byte) (s : State) :
    unpackStatus (delivered d (unpackStatus (delivered d s))) = unpackStatus (delivered d s) := by
  cases hr : decodeStatus d with
  | error e => rw [unpackStatus_of_error hr, unpackStatus_of_error hr, raise_delivered_again]
  | ok r =>
    rw [unpackStatus_of_ok hr, unpackStatus_of_ok hr]
    simp only [delivered]

/-- The DEVID tail once more on the same payload (R180). -/
theorem unpackDevId_again (d : List Byte) (s : State) :
    unpackDevId (delivered d (unpackDevId (delivered d s))) = unpackDevId (delivered d s) := by
  cases hr : decodeDeviceId d with
  | error e => rw [unpackDevId_of_error hr, unpackDevId_of_error hr, raise_delivered_again]
  | ok r =>
    rw [unpackDevId_of_ok hr, unpackDevId_of_ok hr]
    simp only [delivered]

/-- A tail that runs once more on the same payload ends in the same state (R180). -/
theorem tail_delivered_again (h : IsTail tail) (d : List Byte) (s : State) :
    tail (delivered d (tail (delivered d s))) = tail (delivered d s) := by
  rcases h with rfl | rfl | rfl | rfl
  · rfl
  · exact verifyPayload_again d s
  · exact unpackStatus_again d s
  · exact unpackDevId_again d s

/-- A consumer keeps the registers of the call (R180, R209). -/
theorem callRegisters_consume (h : IsTail tail) (k : Fin 9) (s : State) :
    callRegisters (consume k tail s) = callRegisters s :=
  callRegisters_ite (callRegisters_validateThen h _) rfl

/-- A consumer that runs once more ends in the same state: its sequence test and validation answer the same (R180). -/
theorem consume_consume (htail : IsTail tail) (k : Fin 9) (s : State) :
    consume k tail (consume k tail s) = consume k tail s := by
  have hregs := callRegisters_consume htail k s
  by_cases hopen : s.callv = true ∧ s.kidx = indexBits k
  · cases hv : validateResponse s.cmd s.rx s.explen.toNat with
    | error e =>
      have h : ResponseIs k (.error e) s := ⟨hopen.1, hopen.2, hv⟩
      rw [(h.of_callRegisters hregs).consume_error, h.consume_error]
      simp only [raise_dropped_eq, sticky_again]
    | ok d =>
      have h : ResponseIs k (.ok d) s := ⟨hopen.1, hopen.2, hv⟩
      rw [(h.of_callRegisters hregs).consume_ok, h.consume_ok]
      exact tail_delivered_again htail d s
  · rw [consume_closed hopen]
    refine Eq.trans (consume_closed hopen) ?_
    simp only [raise_startOp_eq, sticky_again]

end

/-! ### The nine consumers -/

/-- The nine consumers, each with the index of its command (R180 to R189). -/
def indexedConsumers : List (Instr × BitVec 4) :=
  [(.rsPing, 0), (.rsReset, 1), (.rsInit, 2), (.rsGetst, 3), (.rsExit, 4), (.rsRdfl, 5), (.rsRdid, 6), (.rsWrps, 7),
   (.rsRdps, 8)]

/-- Each is the shared consumer of its command, with one of the four tails (R180). -/
theorem exec_indexedConsumer {p : Instr × BitVec 4} (hp : p ∈ indexedConsumers) :
    ∃ k tail, p.2 = indexBits k ∧ IsTail tail ∧ ∀ s, exec p.1 s = .next (consume k tail s) := by
  simp only [indexedConsumers, List.mem_cons, List.not_mem_nil, or_false] at hp
  rcases hp with rfl | rfl | rfl | rfl | rfl | rfl | rfl | rfl | rfl
  · exact ⟨0, id, rfl, .inl rfl, fun _ => rfl⟩
  · exact ⟨1, id, rfl, .inl rfl, fun _ => rfl⟩
  · exact ⟨2, id, rfl, .inl rfl, fun _ => rfl⟩
  · exact ⟨3, unpackStatus, rfl, .inr (.inr (.inl rfl)), fun _ => rfl⟩
  · exact ⟨4, id, rfl, .inl rfl, fun _ => rfl⟩
  · exact ⟨5, verifyPayload, rfl, .inr (.inl rfl), fun _ => rfl⟩
  · exact ⟨6, unpackDevId, rfl, .inr (.inr (.inr rfl)), fun _ => rfl⟩
  · exact ⟨7, verifyPayload, rfl, .inr (.inl rfl), fun _ => rfl⟩
  · exact ⟨8, verifyPayload, rfl, .inr (.inl rfl), fun _ => rfl⟩

/-- The four consumers without a tail (R181, R182, R183, R185). -/
theorem exec_bareConsumer {p : Instr × BitVec 4}
    (hp : p ∈ [(.rsPing, 0), (.rsReset, 1), (.rsInit, 2), (.rsExit, 4)]) :
    ∃ k, p.2 = indexBits k ∧ ∀ s, exec p.1 s = .next (consume k id s) := by
  simp only [List.mem_cons, List.not_mem_nil, or_false] at hp
  rcases hp with rfl | rfl | rfl | rfl
  · exact ⟨0, rfl, fun _ => rfl⟩
  · exact ⟨1, rfl, fun _ => rfl⟩
  · exact ⟨2, rfl, fun _ => rfl⟩
  · exact ⟨4, rfl, fun _ => rfl⟩

/-- The three consumers with a checksum (R186, R188, R189). -/
theorem exec_checksumConsumer {p : Instr × BitVec 4} (hp : p ∈ [(.rsRdfl, 5), (.rsWrps, 7), (.rsRdps, 8)]) :
    ∃ k, p.2 = indexBits k ∧ ∀ s, exec p.1 s = .next (consume k verifyPayload s) := by
  simp only [List.mem_cons, List.not_mem_nil, or_false] at hp
  rcases hp with rfl | rfl | rfl
  · exact ⟨5, rfl, fun _ => rfl⟩
  · exact ⟨7, rfl, fun _ => rfl⟩
  · exact ⟨8, rfl, fun _ => rfl⟩

/-- Settles O27: the payload that validates is delivered as it is. -/
theorem bareConsumersAcceptTheAcknowledgement : Obligations.BareConsumersAcceptTheAcknowledgement := by
  intro p hp s d hc hidx hrx hn
  obtain ⟨k, hk, hexec⟩ := exec_bareConsumer hp
  rw [hexec, (ResponseIs.ok hc (hidx.trans hk) hrx hn).consume_id]

/-- Settles O28: the payload that validates decodes. -/
theorem statusConsumerDeliversTheRecord : Obligations.StatusConsumerDeliversTheRecord :=
  fun _ _ _ hc hidx hrx hn hr =>
    congrArg Host.Outcome.next ((ResponseIs.ok (k := 3) hc hidx hrx hn).consume_unpackStatus hr)

/-- Settles O29: the payload that validates decodes. -/
theorem deviceIdConsumerDeliversTheRecord : Obligations.DeviceIdConsumerDeliversTheRecord :=
  fun _ _ _ hc hidx hrx hn hr =>
    congrArg Host.Outcome.next ((ResponseIs.ok (k := 6) hc hidx hrx hn).consume_unpackDevId hr)

/-- Settles O30: the payload that validates is the data and their checksum. -/
theorem checksumConsumersDeliverTheData : Obligations.ChecksumConsumersDeliverTheData := by
  intro p hp s d hc hidx hrx hn
  obtain ⟨k, hk, hexec⟩ := exec_checksumConsumer hp
  have h := ResponseIs.ok hc (hidx.trans hk) hrx (by simpa using hn)
  rw [hexec, h.consume_verifyPayload]

/-- Settles O31: the payload that validates is the data and another byte. -/
theorem checksumConsumersRejectAWrongChecksum : Obligations.ChecksumConsumersRejectAWrongChecksum := by
  intro p hp s d c hc hidx hrx hn hwrong
  obtain ⟨k, hk, hexec⟩ := exec_checksumConsumer hp
  have h := ResponseIs.ok hc (hidx.trans hk) hrx (by simpa using hn)
  rw [hexec, h.consume_verifyPayload_wrong hwrong]

/-- Settles O32: the sequence test fails on `CALLV` or on `KIDX`. -/
theorem consumersNeedTheirOpenCall : Obligations.ConsumersNeedTheirOpenCall := by
  intro p hp s h
  obtain ⟨k, tail, hk, -, hexec⟩ := exec_indexedConsumer hp
  have hclosed : ¬ (s.callv = true ∧ s.kidx = indexBits k) := by
    rintro ⟨hc, hidx⟩
    rcases h with hc' | hne
    · exact absurd (hc'.symm.trans hc) (by decide)
    · exact hne (hidx.trans hk.symm)
  rw [hexec, consume_closed hclosed, raise_startOp_eq]
  rfl

/-- Settles O33: validation answers an error before the tail is reached, by the tests of R141 in their order. -/
theorem consumersRejectBadResponses : Obligations.ConsumersRejectBadResponses := by
  intro p hp s hc hidx
  obtain ⟨k, tail, hk, -, hexec⟩ := exec_indexedConsumer hp
  have hrefuse {e : ErrKind} (he : validateResponse s.cmd s.rx s.explen.toNat = .error e) :=
    (hexec s).trans (congrArg _ (ResponseIs.consume_error_eq ⟨hc, hidx.trans hk, he⟩))
  refine ⟨fun hrx => ?_, fun a d hrx => ⟨fun ha => ?_, fun ha hn => ?_⟩⟩
  · exact hrefuse (hrx ▸ validateResponse_nil _ _)
  · exact hrefuse (hrx ▸ validateResponse_wrong_ack d _ ha)
  · subst ha
    exact hrefuse (hrx ▸ validateResponse_wrong_length _ hn)

/-- Settles O34: each of the nine is the shared consumer, which ends in the same state when it runs once more. -/
theorem consumersAreIdempotent : Obligations.ConsumersAreIdempotent := by
  intro i hi s t ht
  obtain ⟨p, hp, rfl⟩ := List.mem_map.mp (show i ∈ indexedConsumers.map Prod.fst from hi)
  obtain ⟨k, tail, -, htail, hexec⟩ := exec_indexedConsumer hp
  obtain rfl := eq_of_next ((hexec s).symm.trans ht)
  rw [hexec, consume_consume htail]

/-! ### The round trip of a call -/

/-- The nine builders, each with the index of its command (R161 to R169). -/
def indexedBuilders : List (Instr × Fin 9) :=
  [(.rqPing, 0), (.rqReset, 1), (.rqInit, 2), (.rqGetst, 3), (.rqExit, 4), (.rqRdfl, 5), (.rqRdid, 6), (.rqWrps, 7),
   (.rqRdps, 8)]

/-- A builder that does not raise opens the call of its own command (R160). -/
theorem exec_indexedBuilder {b : Instr × Fin 9} (hb : b ∈ indexedBuilders) {s t : State}
    (ht : exec b.1 s = .next t) (herr : t.err = 0) :
    ∃ p q n, contextOf b.2 p q n ∧ t = buildRequest b.2 p q n s := by
  simp only [indexedBuilders, List.mem_cons, List.not_mem_nil, or_false] at hb
  rcases hb with rfl | rfl | rfl | rfl | rfl | rfl | rfl | rfl | rfl <;> obtain rfl := eq_of_next ht
  on_goal 6 =>
    by_cases hlen : s.len ≤ Config.maxReadLen
    · exact ⟨_, _, _, by simp [contextOf, hlen], buildReadFlash_of_le hlen⟩
    · rw [buildReadFlash_of_not_le hlen, raise_err] at herr
      exact absurd herr (by decide)
  all_goals exact ⟨_, _, _, by simp [contextOf], rfl⟩

/-- No builder asks for more than `RX` holds (R8, R24). -/
theorem explen_le_of_contextOf {k : Fin 9} {p q : List Byte} {n : Len9} (h : contextOf k p q n) : n.toNat ≤ 257 := by
  unfold contextOf at h
  split at h
  · obtain ⟨-, ⟨-, rfl⟩ | ⟨-, rfl⟩ | ⟨-, rfl⟩⟩ := h <;> decide
  · obtain ⟨-, -, rfl⟩ := h
    decide
  · next x =>
    obtain ⟨-, -, rfl, -⟩ | ⟨-, -, rfl⟩ := h
    · have hx := x.isLt
      rw [explen_readFlash]
      omega
    · decide
  · exact h.elim

/-- After its builder, a response that begins with the acknowledgement byte and has the length asked for validates
(R160, R190). -/
theorem ResponseIs.of_buildRequest {k : Fin 9} {p q r : List Byte} {n : Len9} (hctx : contextOf k p q n)
    (hn : n.toNat = r.length + 1) (s : State) :
    ResponseIs k (.ok r) (loadRx (ackByte (Config.cmdCode k) :: r) (buildRequest k p q n s)) := by
  have hcut : (ackByte (Config.cmdCode k) :: r).take Config.rxCap = ackByte (Config.cmdCode k) :: r := by
    refine List.take_of_length_le ?_
    have hle := explen_le_of_contextOf hctx
    simp only [List.length_cons, Config.rxCap]
    omega
  rw [buildRequest_eq, loadRx, hcut]
  exact .ok rfl rfl rfl hn

/-- The consumer `i` in `s` ends with `ERR` 0 and delivers exactly `d`, and the record that `d` is (R190). -/
def Delivers (i : Instr) (d : List Byte) (s : State) : Prop :=
  ∃ u, exec i s = .next u ∧ u.err = 0 ∧ u.payv = true ∧ u.pay = d
    ∧ (i = .rsGetst → u.stv = true ∧ decodeStatus d = .ok u.st)
    ∧ (i = .rsRdid → u.idv = true ∧ decodeDeviceId d = .ok u.devId)

section

variable {k : Fin 9} {d : List Byte} {s : State} {i : Instr}

theorem ResponseIs.delivers_response (h : ResponseIs k (.ok (d ++ [])) s) (hi : exec i s = .next (consume k id s))
    (hst : i ≠ .rsGetst) (hid : i ≠ .rsRdid) : Delivers i d s := by
  rw [List.append_nil] at h
  rw [h.consume_id] at hi
  exact ⟨_, hi, rfl, rfl, rfl, fun e => absurd e hst, fun e => absurd e hid⟩

theorem ResponseIs.delivers_data (h : ResponseIs k (.ok (d ++ [checksum d s.sec])) s)
    (hi : exec i s = .next (consume k verifyPayload s)) (hst : i ≠ .rsGetst) (hid : i ≠ .rsRdid) :
    Delivers i d s := by
  rw [h.consume_verifyPayload] at hi
  exact ⟨_, hi, rfl, rfl, rfl, fun e => absurd e hst, fun e => absurd e hid⟩

theorem ResponseIs.delivers_status (h : ResponseIs 3 (.ok (d ++ [])) s) (hd : d.length = 11) :
    Delivers .rsGetst d s := by
  rw [List.append_nil] at h
  have hr := decodeStatus_of_length hd
  exact ⟨_, congrArg Host.Outcome.next (h.consume_unpackStatus hr), rfl, rfl, rfl, fun _ => ⟨rfl, hr⟩, nofun⟩

theorem ResponseIs.delivers_devId (h : ResponseIs 6 (.ok (d ++ [])) s) (hd : d.length = 9) :
    Delivers .rsRdid d s := by
  rw [List.append_nil] at h
  have hr := decodeDeviceId_of_length hd
  exact ⟨_, congrArg Host.Outcome.next (h.consume_unpackDevId hr), rfl, rfl, rfl, nofun, fun _ => ⟨rfl, hr⟩⟩

end

/-- Settles O35: the builder's context makes the response one that validates, and each tail delivers its data; the
lengths asked for by GETST and RDID are those of their records. -/
theorem callRoundTrip : Obligations.CallRoundTrip := by
  intro row hrow s t d c ht herr hc hlen
  have hb := List.mem_map_of_mem (f := fun row => (row.1, row.2.2.1)) hrow
  obtain ⟨p, q, n, hctx, rfl⟩ := exec_indexedBuilder hb ht herr
  have hn : n.toNat = (d ++ c).length + 1 := by
    simp only [buildRequest_eq] at hlen
    rw [List.length_append]
    omega
  have h := ResponseIs.of_buildRequest hctx hn s
  subst hc
  simp only [List.mem_cons, List.not_mem_nil, or_false] at hrow
  rcases hrow with rfl | rfl | rfl | rfl | rfl | rfl | rfl | rfl | rfl
  · exact h.delivers_response rfl nofun nofun
  · exact h.delivers_response rfl nofun nofun
  · exact h.delivers_response rfl nofun nofun
  · obtain rfl := explen_of_contextOf_getst hctx
    exact h.delivers_status (by simpa using hn.symm)
  · exact h.delivers_response rfl nofun nofun
  · exact h.delivers_data rfl nofun nofun
  · obtain rfl := explen_of_contextOf_rdid hctx
    exact h.delivers_devId (by simpa using hn.symm)
  · exact h.delivers_data rfl nofun nofun
  · exact h.delivers_data rfl nofun nofun

end Sys2Proof.Machine
end

section
/-! PROOF. Housekeeping: `CLRE` (R195). -/

namespace Sys2Proof.Machine

/-- Settles O36: `ERR` is cleared as at the start of every operation, then `ESTK` alone is written. -/
theorem clreClearsTheStickyRecord : Obligations.ClreClearsTheStickyRecord :=
  fun _ => rfl

end Sys2Proof.Machine
end

section
/-! PROOF. The host's dispatcher (R219 to R222): how an attempt ends, what it retries, and its loop against a transport
that always fails; and the first operations after reset (R233). -/

namespace Sys2Proof.Machine

section

variable {k : Fin 9} {n : Nat} {s t u : State} {more : List (Option (List Byte))}

/-! ### The end of an attempt -/

/-- The closed set: transport failure, acknowledgement mismatch, length mismatch (R219, R220). -/
theorem retryable_iff (e : BitVec 4) : retryable e = true ↔ e = 1 ∨ e = 2 ∨ e = 3 := by
  simp [retryable, ErrKind.code, or_assoc]

/-- The end of an attempt, whole: the host knows the code, and has one attempt less to go if the code is in the closed
set and an attempt is left (R219). -/
theorem endAttempt_eq (hn : 0 < n) (k : Fin 9) (e : BitVec 4) (s : State) :
    endAttempt k n e s = { s with env := { s.env with
      hostErr := e
      script := if (e = 1 ∨ e = 2 ∨ e = 3) ∧ 1 < n then .attempt k (n - 1) :: s.env.script else s.env.script } } := by
  have hleft : n ≠ 1 ↔ 1 < n := by omega
  have hretry : (retryable e && n != 1) = true ↔ (e = 1 ∨ e = 2 ∨ e = 3) ∧ 1 < n := by
    rw [Bool.and_eq_true, retryable_iff, bne_iff_ne, hleft]
  simp only [endAttempt, hretry]
  split <;> rfl

/-! ### One attempt -/

/-- An operation leaves the world outside alone, and never reports a transport failure (R43, R201). -/
theorem requestOperation_outside {w : Byte} (h : requestOperation w s = .next u) : u.env = s.env ∧ u.err ≠ 1 := by
  have ho := isOperation_decodeWord w
  obtain ⟨-, -, -, -, henv⟩ := operation_sameOperands ho h
  refine ⟨henv, fun he => ?_⟩
  have herr := operation_err ho h
  rw [he] at herr
  exact absurd herr (by decide)

/-- An attempt whose exchange fails ends with that failure; nothing is consumed (R219). -/
theorem attempt_of_failure (hn : 0 < n) (h : (transact s.tx s.explen.toNat s).env.hostErr = 1) :
    attempt k n s = .next (endAttempt k n 1 (transact s.tx s.explen.toNat s)) := by
  simp only [attempt, if_neg hn.ne', exchange_eq_transact, h, ErrKind.code, if_true]

/-- An attempt whose exchange is answered ends with the `ERR` of the consumer (R219). -/
theorem attempt_of_answer (hn : 0 < n) (h : (transact s.tx s.explen.toNat s).env.hostErr ≠ 1)
    (hu : requestOperation (consumerWord k) (transact s.tx s.explen.toNat s) = .next u) :
    attempt k n s = .next (endAttempt k n u.err u) := by
  have hcode : (transact s.tx s.explen.toNat s).env.hostErr ≠ ErrKind.transportError.code := h
  simp only [attempt, if_neg hn.ne', exchange_eq_transact, if_neg hcode, hu]

/-- However an attempt ends, its code is that of the transport or the `ERR` of the block, and the host's other actions
are as they were. -/
theorem attempt_ends (hn : 0 < n) (ht : attempt k n s = .next t) :
    ∃ u e, t = endAttempt k n e u ∧ u.env.script = s.env.script ∧ (e ≠ 1 → e = u.err) := by
  obtain ⟨_, rfl, -, -, -, hscript, -⟩ := transact_spec s.tx s.explen.toNat s
  by_cases h : (transact s.tx s.explen.toNat s).env.hostErr = 1
  · exact ⟨_, 1, eq_of_next ((attempt_of_failure hn h).symm.trans ht), hscript, fun hne => absurd rfl hne⟩
  · obtain ⟨u, hu⟩ : ∃ u, requestOperation (consumerWord k) (transact s.tx s.explen.toNat s) = .next u :=
      exec_next _ _
    obtain ⟨henv, -⟩ := requestOperation_outside hu
    exact ⟨u, u.err, eq_of_next ((attempt_of_answer hn h hu).symm.trans ht), by rw [henv, hscript], fun _ => rfl⟩

/-- An attempt that meets an answer, whole: the consumer runs on the state with the answer in `RX`, and its `ERR`
decides. -/
theorem attempt_answer {r : List Byte} (hn : 0 < n) (hin : s.env.inbox = some r :: more)
    (hu : requestOperation (consumerWord k)
      { s with
        rx := r.take 258
        env := { s.env with
          inbox := more, hostErr := 0
          events := s.env.events ++ [.exchange s.tx s.explen.toNat (some r)] } } = .next u) :
    attempt k n s = .next { u with env := { u.env with
      hostErr := u.err
      script := if (u.err = 2 ∨ u.err = 3) ∧ 1 < n then .attempt k (n - 1) :: s.env.script else s.env.script } } := by
  obtain ⟨henv, herr⟩ := requestOperation_outside hu
  rw [← transact_answer hin s.tx s.explen.toNat] at hu
  have hok : (transact s.tx s.explen.toNat s).env.hostErr = 0 := by rw [transact_answer hin]
  rw [attempt_of_answer hn (by rw [hok]; decide) hu, endAttempt_eq hn, henv]
  simp only [herr, false_or]

/-- `s` after `j` transactions of its frame that failed, with the host's actions `l` and the answers `more` to come. -/
def afterFailures (j : Nat) (l : List HostAction) (more : List (Option (List Byte))) (s : State) : State :=
  { s with env := { s.env with
      script := l, inbox := more, hostErr := 1
      events := s.env.events ++ List.replicate j (.exchange s.tx s.explen.toNat none) } }

/-- Failures add up, as the frame stays the same. -/
theorem afterFailures_afterFailures (i j : Nat) (l l' : List HostAction) (more more' : List (Option (List Byte)))
    (s : State) : afterFailures j l more (afterFailures i l' more' s) = afterFailures (i + j) l more s := by
  simp only [afterFailures, List.append_assoc, List.replicate_add]

/-- An attempt that meets a failure, whole: the transaction is made and fails, and no register changes. -/
theorem attempt_failure (hn : 0 < n) (hin : s.env.inbox = none :: more) (k : Fin 9) :
    attempt k n s = .next
      (afterFailures 1 (if 1 < n then .attempt k (n - 1) :: s.env.script else s.env.script) more s) := by
  have hx := transact_failure hin s.tx s.explen.toNat
  rw [attempt_of_failure hn (by rw [hx]), hx, endAttempt_eq hn]
  simp only [true_or, true_and]
  rfl

/-! ### The loop -/

/-- The loop against a transport that fails every time: a step for each attempt allowed, and then the host's other
actions. -/
theorem run_attempts_failing {rest : List HostAction} (hn : 0 < n) (hscript : s.env.script = .attempt k n :: rest)
    (hin : s.env.inbox = List.replicate n none ++ more) : core.run n s = .next (afterFailures n rest more s) := by
  induction n generalizing s with
  | zero => exact absurd hn (Nat.lt_irrefl 0)
  | succ n ih =>
    have hstep := (step_cons hscript).trans (attempt_failure (s := setScript rest s) hn hin k)
    rw [run_succ hstep]
    rcases n.eq_zero_or_pos with rfl | hpos
    · rfl
    · have hmore : 1 < n + 1 := Nat.succ_lt_succ hpos
      rw [if_pos hmore, ih hpos rfl rfl, afterFailures_afterFailures, Nat.add_comm]
      rfl

end

/-- Settles O58: the loop, run to its last attempt. -/
theorem aFailingTransportIsTriedEveryTime : Obligations.AFailingTransportIsTriedEveryTime :=
  fun _ _ _ _ _ => run_attempts_failing

/-- The nine rows of R93: the word 0x20 + k requests the consumer of command k. -/
theorem requestOperation_consumerWord {p : Fin 9 × Byte × Instr}
    (hp : p ∈ [((0 : Fin 9), (0x20 : Byte), Instr.rsPing), (1, 0x21, .rsReset), (2, 0x22, .rsInit),
      (3, 0x23, .rsGetst), (4, 0x24, .rsExit), (5, 0x25, .rsRdfl), (6, 0x26, .rsRdid), (7, 0x27, .rsWrps),
      (8, 0x28, .rsRdps)]) (s : State) :
    requestOperation (consumerWord p.1) s = exec p.2.2 { s with opw := p.2.1 } := by
  have hword : consumerWord p.1 = p.2.1 ∧ decodeWord p.2.1 = p.2.2 := by
    revert p
    decide
  rw [requestOperation, hword.1, hword.2]

/-- Settles O57: how an attempt ends, then its two outcomes, whole; with none allowed it is refused (R222). -/
theorem onlyTheClosedSetIsRetried : Obligations.OnlyTheClosedSetIsRetried := by
  refine ⟨fun k n s t ht => ?_, fun p hp n s r more hn hin => ?_, fun k n s more hn hin => attempt_failure hn hin k,
    fun _ _ => rfl⟩
  · rcases n.eq_zero_or_pos with rfl | hn
    · cases ht
    · obtain ⟨u, e, rfl, hscript, he⟩ := attempt_ends hn ht
      rw [endAttempt_eq hn, hscript]
      exact ⟨rfl, he⟩
  · obtain ⟨u, hu⟩ := exec_next p.2.2 { s with
      rx := r.take 258, opw := p.2.1
      env := { s.env with
        inbox := more, hostErr := 0
        events := s.env.events ++ [.exchange s.tx s.explen.toNat (some r)] } }
    exact ⟨u, hu, attempt_answer hn hin ((requestOperation_consumerWord hp _).trans hu)⟩

/-! ### The first operations after reset -/

/-- Settles O51: at reset no payload is valid and no call is open, and `VAL` meets an empty response. -/
theorem firstOperationsAfterReset : Obligations.FirstOperationsAfterReset := by
  obtain ⟨-, hval, -⟩ := valValidatesAndUnwrapsTheResponse State.reset
  refine ⟨fun i hi => ?_, hval (by decide) rfl⟩
  replace hi : i ∈ [Instr.csum, .csv, .dst, .did] ++ indexedConsumers.map Prod.fst := hi
  rcases List.mem_append.mp hi with hi | hi
  · simp only [List.mem_cons, List.not_mem_nil, or_false] at hi
    rcases hi with rfl | rfl | rfl | rfl
    · exact (csumWritesTheChecksumOfPayAndSec State.reset).2 rfl
    · exact (csvVerifiesAndStripsTheTrailingByte State.reset).1 rfl
    · exact (dstUnpacksTheStatusRecord State.reset).2.2 rfl
    · exact (didUnpacksTheDeviceIdentificationRecord State.reset).2.2 rfl
  · obtain ⟨p, hp, rfl⟩ := List.mem_map.mp hi
    exact consumersNeedTheirOpenCall p hp State.reset (.inl rfl)

end Sys2Proof.Machine
end

section
/-! PROOF. The reset input, asserted in any state (70_reset_and_hazards.md R230). -/

namespace Sys2Proof.Machine

/-- Settles O50: the reset input is `resetBlock`, which keeps the outside world alone of the state before. -/
theorem resetFromAnyState : Obligations.ResetFromAnyState :=
  fun _ => rfl

end Sys2Proof.Machine
end
